-- ==== Sys2Proof/Word.lean ====
section
/-! DEFINITION. The word types of the block (00_scope.md section 4) and the three parts in which the programming
block goes out (43_block_transfer.md R203, R204, R206). -/

namespace Sys2Proof

/-- `u8`: a byte, a character, a signature. -/
abbrev Byte := BitVec 8

/-- `u16`: a CRC accumulator, a control word, a block size. -/
abbrev Word16 := BitVec 16

/-- `u32`: addresses, counters and the recorded counts. -/
abbrev Word32 := BitVec 32

/-- The three Sends of one TX.BLOCK message (30_encoding.md R82: first, second and third part). -/
inductive BlockPart where
  /-- `42 bs[15:8] bs[7:0] 46` (R203). -/
  | header (bs : Word16)
  /-- The chunk bytes, unchanged (R204). -/
  | data (chunk : List Byte)
  /-- `crc[15:8] crc[7:0]` (R206). -/
  | crc (c : Word16)
deriving DecidableEq, Repr

end Sys2Proof
end

