-- ==== Sys2Proof/Config.lean ====
section
/-! DEFINITION. What an implementation of the block fixes (00_scope.md R5), what the environment may answer
(20_memory.md R60, R61), and the free values: constants without a body for everything the spec leaves open. -/

namespace Sys2Proof

/-- `DeviceKind`, an OPEN finite type (R5, 92_eei_decisions.md D25). DESIGN CHOICE (log 16): a kind is known by a
label, so every finite type of kinds is one of these. -/
structure DeviceKind where
  label : Nat
deriving DecidableEq, Repr

/-- The parameters of 00_scope.md R5. The proof fields are the constraints of 70_reset_and_hazards.md R274: a value
outside them is not admitted (93_implementation_defined.md I26), so `Params` cannot hold one. -/
structure Params where
  /-- `CRC_POLY`, OPEN. -/
  crcPoly : Word16
  /-- `CRC_ITERS`, default 16. -/
  crcIters : Nat
  /-- `MIN_LINE_LEN`, default 11. -/
  minLineLen : Nat
  /-- `LINE_MAX`, default 521. -/
  lineMax : Nat
  /-- `STRICT_CHECKSUM`, default false. -/
  strictChecksum : Bool
  /-- `ALLOW_EMPTY_IMAGE`, default false. -/
  allowEmptyImage : Bool
  /-- `IMAGE_CAPACITY`, default 0x1100EE. -/
  imageCapacity : Word32
  /-- `PAD_BYTE`, default 0x00. -/
  padByte : Byte
  /-- `T_SETTLE`, OPEN, in ms. -/
  tSettle : Nat
  /-- `T_DISCOVERY`, default 10000 ms. -/
  tDiscovery : Nat
  /-- `T_PING_1`, default 20 ms. -/
  tPing1 : Nat
  /-- `T_PING_2`, default 80 ms. -/
  tPing2 : Nat
  /-- `T_POLL`, OPEN, at least 1 ms. -/
  tPoll : Nat
  /-- `T_RESP`, OPEN, in ms. -/
  tResp : Nat
  /-- `T_ERASE`, OPEN, in ms. -/
  tErase : Nat
  /-- `MATCH_RETEST`, default false. -/
  matchRetest : Bool
  /-- `SIG_TABLE`, OPEN, as its list of entries: the first entry of a signature is its kind, and a signature without
  an entry has none (log 16). -/
  sigTable : List (Byte × DeviceKind)
  /-- `NEEDS_ERASE_SIZE`, OPEN, as the list of the kinds for which it is true (log 16). -/
  eraseKinds : List DeviceKind
  /-- `V_RESP_LEN`, default 2. -/
  vRespLen : Nat
  crcIters_pos : 1 ≤ crcIters := by decide
  minLineLen_ge : 9 ≤ minLineLen := by decide
  minLineLen_le : minLineLen ≤ lineMax := by decide
  tPings_pos : 1 ≤ tPing1 + tPing2 := by decide
  tPoll_pos : 1 ≤ tPoll := by decide
  vRespLen_pos : 1 ≤ vRespLen := by decide
deriving DecidableEq, Repr

/-- What a Send may draw (20_memory.md R60). -/
inductive SendDraw where
  /-- The whole message goes out. -/
  | ok
  /-- `IOError(p)`: the first `p` bytes go out, then the transport fails. -/
  | ioError (p : Nat)
deriving DecidableEq, Repr, Inhabited

/-- What a ReadAvailable may draw (20_memory.md R61). -/
inductive ReadDraw where
  /-- The bytes the link has delivered since the previous read, possibly none. -/
  | bytes (r : List Byte)
  /-- The transport fails. -/
  | ioError
deriving DecidableEq, Repr, Inhabited

namespace Config

/-- `CRC_SEED`, fixed (R5; 40_crc.md R100). -/
def crcSeed : Word16 := 0xFFFF

/-- OPEN `CRC_POLY` (R5). -/
opaque crcPoly : Word16
/-- OPEN `T_SETTLE` (R5). -/
opaque tSettle : Nat
/-- OPEN `T_POLL` less the 1 ms it is at least (R5, R274). -/
opaque tPollBeyondOne : Nat
/-- OPEN `T_RESP` (R5). -/
opaque tResp : Nat
/-- OPEN `T_ERASE` (R5). -/
opaque tErase : Nat
/-- OPEN `SIG_TABLE` (R5). -/
opaque sigTable : List (Byte × DeviceKind)
/-- OPEN `NEEDS_ERASE_SIZE` (R5). -/
opaque eraseKinds : List DeviceKind

/-- The n-th free answer of the link to a Send, once the answers listed in the state are used up (R60; log 2). -/
opaque sendDraw : Nat → SendDraw
/-- The n-th free answer of the link to a ReadAvailable (R61; log 2). -/
opaque readDraw : Nat → ReadDraw
/-- The n-th free jitter of a Sleep (R62; log 2). -/
opaque jitter : Nat → Nat

/-- What a u32 element holds of a number that does not fit 32 bits: the spec states none (log 13). -/
opaque u32Overflow : Nat → Word32

/-- The parameters of a block whose realisation pins nothing: the defaults of R5, and free constants for the OPEN
rows (log 1). -/
def params : Params where
  crcPoly := crcPoly
  crcIters := 16
  minLineLen := 11
  lineMax := 521
  strictChecksum := false
  allowEmptyImage := false
  imageCapacity := 0x1100EE
  padByte := 0x00
  tSettle := tSettle
  tDiscovery := 10000
  tPing1 := 20
  tPing2 := 80
  tPoll := 1 + tPollBeyondOne
  tResp := tResp
  tErase := tErase
  matchRetest := false
  sigTable := sigTable
  eraseKinds := eraseKinds
  vRespLen := 2
  tPoll_pos := Nat.le_add_right 1 tPollBeyondOne

end Config

end Sys2Proof
end

