-- ==== Sys2Proof/Syntax.lean ====
section
/-! DEFINITION. The instructions: one constructor for each mnemonic of spec/opcode_table.json. Control words are what
the HOST issues (30_encoding.md R70 to R74), records what a completed HEX line decodes to (R76 to R81), messages what
U3 sends (R82), replies what its waits collect (R84). -/

namespace Sys2Proof

/-- One instruction of the block. -/
inductive Instr where
  /-- CRC.INIT (40_crc.md R100). -/
  | crcInit
  /-- CRC.UPDATE b (R101). -/
  | crcUpdate (b : Byte)
  /-- CRC.RESULT (R102). -/
  | crcResult
  /-- HEX.CHAR c (41_hex_parser.md R120 to R123). -/
  | hexChar (c : Byte)
  /-- HEX.END (R124). -/
  | hexEnd
  /-- SES.START (42_session.md R160). -/
  | sesStart
  /-- REC.DATA (41_hex_parser.md R135): `byte_count` is the length of `payload`. -/
  | recData (address : Word16) (payload : List Byte) (cc : Byte)
  /-- REC.EOF (R138). -/
  | recEof (address : Word16) (payload : List Byte) (cc : Byte)
  /-- REC.EXTADDR (R137). -/
  | recExtAddr (address : Word16) (payload : List Byte) (cc : Byte)
  /-- REC.UNSUPPORTED, the seven rows TT = 0x03 .. 0xFF (R141; log 11). -/
  | recUnsupported (tt : Byte) (address : Word16) (payload : List Byte) (cc : Byte)
  /-- TX.RESET_FRAME (42_session.md R165). -/
  | txResetFrame
  /-- TX.PING1 (R166). -/
  | txPing1
  /-- TX.PING2 (R166). -/
  | txPing2
  /-- TX.READ_SIG (R169). -/
  | txReadSig
  /-- TX.SET_DEV sig (R172). -/
  | txSetDev (sig : Byte)
  /-- TX.READ_VER (R173). -/
  | txReadVer
  /-- TX.READ_BSIZE (R174). -/
  | txReadBsize
  /-- TX.ERASE_SIZE s (R175). -/
  | txEraseSize (size : BitVec 24)
  /-- TX.ERASE (R176). -/
  | txErase
  /-- TX.SET_ADDR, whose address is the constant 0x0000 (43_block_transfer.md R200). -/
  | txSetAddr
  /-- TX.BLOCK, one of its three parts (R203 to R206; log 10). -/
  | txBlock (part : BlockPart)
  /-- TX.EXIT (R210). -/
  | txExit
  /-- RX.IDENT (42_session.md R167). -/
  | rxIdent
  /-- RX.SIG_REPLY s0 s1 (R170). -/
  | rxSigReply (s0 s1 : Byte)
  /-- RX.OK (R163). -/
  | rxOk
  /-- RX.VER_REPLY, `V_RESP_LEN` bytes (R173). -/
  | rxVerReply (content : List Byte)
  /-- RX.BSIZE_REPLY hi lo (R174). -/
  | rxBsizeReply (hi lo : Byte)
deriving DecidableEq, Repr

end Sys2Proof
end

