-- ==== Sys2Proof/WellFormed.lean ====
section
/-! DEFINITION. Which terms of `Instr` have an encoding: the length and value limits of 30_encoding.md that the types
do not carry. -/

namespace Sys2Proof

/-- A payload has the length its one-byte BB field can say (30_encoding.md R76; 41_hex_parser.md R130). -/
def payloadFits (payload : List Byte) : Bool :=
  decide (payload.length ≤ 255)

/-- A block part can be sent: a Send carries at least one byte (20_memory.md R60), and a chunk has the 1 to 0xFFFF
bytes of a block size (43_block_transfer.md R202, 42_session.md R174). -/
def BlockPart.wf : BlockPart → Bool
  | .header _ => true
  | .data chunk => decide (1 ≤ chunk.length) && decide (chunk.length ≤ 0xFFFF)
  | .crc _ => true

/-- The term is an instruction that the encodings of 30_encoding.md can write. -/
def Instr.wf : Instr → Bool
  | .crcInit => true
  | .crcUpdate _ => true
  | .crcResult => true
  | .hexChar _ => true
  | .hexEnd => true
  | .sesStart => true
  | .recData _ payload _ => payloadFits payload
  | .recEof _ payload _ => payloadFits payload
  | .recExtAddr _ payload _ => payloadFits payload
  | .recUnsupported tt _ payload _ => decide (3 ≤ tt.toNat) && payloadFits payload
  | .txResetFrame => true
  | .txPing1 => true
  | .txPing2 => true
  | .txReadSig => true
  | .txSetDev _ => true
  | .txReadVer => true
  | .txReadBsize => true
  | .txEraseSize _ => true
  | .txErase => true
  | .txSetAddr => true
  | .txBlock part => part.wf
  | .txExit => true
  | .rxIdent => true
  | .rxSigReply _ _ => true
  | .rxOk => true
  | .rxVerReply content => decide (1 ≤ content.length)
  | .rxBsizeReply _ _ => true

end Sys2Proof
end

