-- ==== Sys2Proof/Decode.lean ====
section
/-! DEFINITION. The decoders of 30_encoding.md, total on any bytes and rejecting by name, and the encoder beside them.
The block reads four formats, each in its own place: the HOST's control words, the text line U2 has collected, the
messages on the TX stream, the replies a wait collects. -/

namespace Sys2Proof

/-! ## Fields -/

/-- A 16-bit field on the wire, most significant byte first (20_memory.md R56). -/
def be16 (w : Word16) : List Byte :=
  [w.extractLsb' 8 8, w.extractLsb' 0 8]

/-- A 24-bit field on the wire, most significant byte first (R56, D29). -/
def be24 (w : BitVec 24) : List Byte :=
  [w.extractLsb' 16 8, w.extractLsb' 8 8, w.extractLsb' 0 8]

/-- `hexval(c)`: the value of a hex digit, of either case; undefined on every other character (30_encoding.md R78). -/
def hexval (c : Byte) : Option (BitVec 4) :=
  if 0x30 ≤ c ∧ c ≤ 0x39 then some ((c - 0x30).setWidth 4)
  else if 0x41 ≤ c ∧ c ≤ 0x46 then some ((c - 0x37).setWidth 4)
  else if 0x61 ≤ c ∧ c ≤ 0x66 then some ((c - 0x57).setWidth 4)
  else none

/-- The byte of two hex digits, the first the high one: `hex2` (20_memory.md R57). The decoder reads it only where
both digits are defined. -/
def hexByte (a b : Byte) : Byte :=
  (hexval a).getD 0 ++ (hexval b).getD 0

/-- The bytes of a text of digit pairs. -/
def hexBytes : List Byte → List Byte
  | a :: b :: rest => hexByte a b :: hexBytes rest
  | _ => []

/-- The first character of a text that is no hex digit, with its offset; the text's own offset is `i`. -/
def badDigitFrom (i : Nat) : List Byte → Option (Byte × Nat)
  | [] => none
  | c :: rest => if (hexval c).isSome then badDigitFrom (i + 1) rest else some (c, i)

/-- The digit the encoder writes for a value, upper case (R78 admits both; log 23). -/
def hexDigit (n : BitVec 4) : Byte :=
  if n < 10 then 0x30 + n.setWidth 8 else 0x37 + n.setWidth 8

/-- Two digits a byte, the high one first. -/
def hexText : List Byte → List Byte
  | [] => []
  | b :: rest => hexDigit (b.extractLsb' 4 4) :: hexDigit (b.extractLsb' 0 4) :: hexText rest

/-! ## Control words (R70 to R74) -/

/-- Why a control word is reserved. -/
inductive CwError where
  /-- An op value that names no operation (R73). -/
  | reservedOp (op : Byte)
  /-- Nonzero data on an operation without an operand (R72). -/
  | reservedData (op data : Byte)
deriving DecidableEq, Repr

/-- `op = w[15:8]` (R70). -/
def cwOp (w : Word16) : Byte := w.extractLsb' 8 8

/-- `data = w[7:0]` (R70). -/
def cwData (w : Word16) : Byte := w.extractLsb' 0 8

/-- An operation that takes no operand: its data must be 0x00 (R72). -/
def cwPlain (op data : Byte) (i : Instr) : Except CwError Instr :=
  if data = 0 then .ok i else .error (.reservedData op data)

/-- The operation of a control word (R71 to R73). -/
def decodeCw (w : Word16) : Except CwError Instr :=
  let op := cwOp w
  let data := cwData w
  if op = 0x01 then cwPlain op data .crcInit
  else if op = 0x02 then .ok (.crcUpdate data)
  else if op = 0x03 then cwPlain op data .crcResult
  else if op = 0x10 then .ok (.hexChar data)
  else if op = 0x11 then cwPlain op data .hexEnd
  else if op = 0x20 then cwPlain op data .sesStart
  else .error (.reservedOp op)

/-! ## HEX lines (R76 to R81; 41_hex_parser.md R126 to R133) -/

/-- The format errors of Decode steps 1 to 4, each with what its error register needs. -/
inductive LineError where
  /-- The line has `n` characters, fewer than `MIN_LINE_LEN` (R126). -/
  | tooShort (n : Nat)
  /-- The character at this offset is no hex digit (R127, R129). -/
  | badDigit (c : Byte) (offset : Nat)
  /-- The line has `n` characters and its byte count asks for another length (R128). -/
  | lengthMismatch (bb : Byte) (n : Nat)
deriving DecidableEq, Repr

/-- The decoded record `(TT, BB, A, payload, CC)`; BB is the length of the payload (R130). -/
structure HexRecord where
  tt : Byte
  address : Word16
  payload : List Byte
  cc : Byte
deriving DecidableEq, Repr

/-- The record types (R79; 41_hex_parser.md R131). -/
inductive RecType where
  | data
  | eof
  | extAddr
  | unsupported (tt : Byte)
deriving DecidableEq, Repr

/-- Decode step 6, the type mapping (R131): the TT byte alone selects. -/
def recType (tt : Byte) : RecType :=
  if tt = 0x00 then .data
  else if tt = 0x01 then .eof
  else if tt = 0x02 then .extAddr
  else .unsupported tt

/-- The instruction that a decoded record is. -/
def recordInstr (r : HexRecord) : Instr :=
  match recType r.tt with
  | .data => .recData r.address r.payload r.cc
  | .eof => .recEof r.address r.payload r.cc
  | .extAddr => .recExtAddr r.address r.payload r.cc
  | .unsupported tt => .recUnsupported tt r.address r.payload r.cc

/-- Decode steps 1 to 5 (R126 to R130), in their order: the first check that fails is reported (R257). `line` holds
the `:` at offset 0 (R76, conflict C1). With `9 ≤ minLen` (R126) the last arm is not reached. -/
def decodeLine (minLen : Nat) (line : List Byte) : Except LineError HexRecord :=
  let n := line.length
  if n < minLen then .error (.tooShort n)
  else
    match badDigitFrom 1 ((line.drop 1).take 8) with
    | some (c, i) => .error (.badDigit c i)
    | none =>
      match hexBytes ((line.drop 1).take 8) with
      | [bb, a1, a0, tt] =>
        if n ≠ 11 + 2 * bb.toNat then .error (.lengthMismatch bb n)
        else
          match badDigitFrom 9 (line.drop 9) with
          | some (c, i) => .error (.badDigit c i)
          | none =>
            let tail := hexBytes (line.drop 9)
            .ok { tt := tt, address := a1 ++ a0, payload := tail.take bb.toNat, cc := tail.getD bb.toNat 0 }
      | _ => .error (.tooShort n)

/-- The bytes of a record in the order of its line: BB, AAAA, TT, the payload, CC (R76). -/
def recordBytes (tt : Byte) (address : Word16) (payload : List Byte) (cc : Byte) : List Byte :=
  BitVec.ofNat 8 payload.length :: (be16 address ++ tt :: (payload ++ [cc]))

/-- The sum of a list of bytes, mod 256. -/
def byteSum : List Byte → Byte
  | [] => 0
  | b :: rest => b + byteSum rest

/-- Decode step 7, the checksum sum: 0 for a consistent record (R80; 41_hex_parser.md R132). -/
def recordSum (tt : Byte) (address : Word16) (payload : List Byte) (cc : Byte) : Byte :=
  byteSum (recordBytes tt address payload cc)

/-- The line of a record, without its terminator (R76). -/
def encodeLine (tt : Byte) (address : Word16) (payload : List Byte) (cc : Byte) : List Byte :=
  0x3A :: hexText (recordBytes tt address payload cc)

/-! ## Wire messages and replies (R82 to R86) -/

/-- The device reset frame (R82; 42_session.md R165). -/
def resetFrame : List Byte := [0x23, 0x61, 0x52, 0x40, 0x53, 0x0D, 0x0D, 0x0D]

/-- `IDENT`, the identification string "MKBL" (42_session.md R167). -/
def identBytes : List Byte := [0x4D, 0x4B, 0x42, 0x4C]

/-- Which reply a wait or a scan collects: a reply is selected by the wait, not by its content (R84). -/
inductive ReplyKind where
  | ident
  | sig
  | ok
  | ver
  | bsize
deriving DecidableEq, Repr

/-- Why a reply is not one its wait accepts (R84, R85). -/
inductive ReplyError where
  /-- Not "MKBL". -/
  | notIdent
  /-- Not as many bytes as the reply has. -/
  | length (n : Nat)
  /-- An acknowledgement other than 0x0D. -/
  | notOk (b : Byte)
  /-- A block-size reply whose first byte is not 0x59. -/
  | badMarker (b : Byte)
deriving DecidableEq, Repr

/-- The reply a wait of this kind reads from the bytes it collected (R84); `vLen` is `V_RESP_LEN`. -/
def decodeRx (vLen : Nat) (kind : ReplyKind) (bytes : List Byte) : Except ReplyError Instr :=
  match kind with
  | .ident => if bytes = identBytes then .ok .rxIdent else .error .notIdent
  | .sig =>
    match bytes with
    | [s0, s1] => .ok (.rxSigReply s0 s1)
    | _ => .error (.length bytes.length)
  | .ok =>
    match bytes with
    | [b] => if b = 0x0D then .ok .rxOk else .error (.notOk b)
    | _ => .error (.length bytes.length)
  | .ver => if bytes.length = vLen then .ok (.rxVerReply bytes) else .error (.length bytes.length)
  | .bsize =>
    match bytes with
    | [m, hi, lo] => if m = 0x59 then .ok (.rxBsizeReply hi lo) else .error (.badMarker m)
    | _ => .error (.length bytes.length)

/-- Why a byte list is no message of U3 (R83). -/
inductive TxError where
  /-- No message begins so, or none of this length does. -/
  | noMessage (bytes : List Byte)
deriving DecidableEq, Repr

/-- The message of a byte list: the first byte selects it (R82). Of TX.BLOCK this is the first part; the second and
third follow it in the stream and are known by their place (`Format`). -/
def decodeTx (bytes : List Byte) : Except TxError Instr :=
  match bytes with
  | [c] =>
    if c = 0x1B then .ok .txPing1
    else if c = 0xAA then .ok .txPing2
    else if c = 0x74 then .ok .txReadSig
    else if c = 0x56 then .ok .txReadVer
    else if c = 0x62 then .ok .txReadBsize
    else if c = 0x65 then .ok .txErase
    else if c = 0x45 then .ok .txExit
    else .error (.noMessage bytes)
  | [c, x] => if c = 0x54 then .ok (.txSetDev x) else .error (.noMessage bytes)
  | [c, x, y] => if c = 0x41 ∧ x = 0 ∧ y = 0 then .ok .txSetAddr else .error (.noMessage bytes)
  | [c, x, y, z] =>
    if c = 0x58 then .ok (.txEraseSize (x ++ y ++ z))
    else if c = 0x42 ∧ z = 0x46 then .ok (.txBlock (.header (x ++ y)))
    else .error (.noMessage bytes)
  | _ => if bytes = resetFrame then .ok .txResetFrame else .error (.noMessage bytes)

/-! ## The whole decoder -/

/-- Where the bytes stand, which is what selects how they are read: the op and data of a control word, a completed
HEX line, the start of a message, the chunk of `n` bytes or the CRC after a block header, a reply of one kind. -/
inductive Format where
  | cw
  | hexLine
  | tx
  | txChunk (n : Nat)
  | txCrc
  | rx (kind : ReplyKind)
deriving DecidableEq, Repr

/-- Why bytes decode to no instruction. -/
inductive DecodeError where
  /-- A control word is two bytes here, op then data (log 22). -/
  | cwLength (n : Nat)
  | cw (e : CwError)
  | line (e : LineError)
  | tx (e : TxError)
  /-- A block part of another length than its place asks for. -/
  | blockPartLength (n : Nat)
  | reply (e : ReplyError)
deriving DecidableEq, Repr

/-- The instruction that bytes are in a place of this format. -/
def decode (par : Params) (fmt : Format) (bytes : List Byte) : Except DecodeError Instr :=
  match fmt with
  | .cw =>
    match bytes with
    | [op, data] =>
      match decodeCw (op ++ data) with
      | .ok i => .ok i
      | .error e => .error (.cw e)
    | _ => .error (.cwLength bytes.length)
  | .hexLine =>
    match decodeLine par.minLineLen bytes with
    | .ok r => .ok (recordInstr r)
    | .error e => .error (.line e)
  | .tx =>
    match decodeTx bytes with
    | .ok i => .ok i
    | .error e => .error (.tx e)
  | .txChunk n =>
    if bytes.length = n then .ok (.txBlock (.data bytes)) else .error (.blockPartLength bytes.length)
  | .txCrc =>
    match bytes with
    | [hi, lo] => .ok (.txBlock (.crc (hi ++ lo)))
    | _ => .error (.blockPartLength bytes.length)
  | .rx kind =>
    match decodeRx par.vRespLen kind bytes with
    | .ok i => .ok i
    | .error e => .error (.reply e)

/-! ## The encoder -/

/-- The bytes of an instruction: op and data of a control word, the text of a record's line, the bytes of a message
or a reply (R71, R76, R82, R84). -/
def encode : Instr → List Byte
  | .crcInit => [0x01, 0x00]
  | .crcUpdate b => [0x02, b]
  | .crcResult => [0x03, 0x00]
  | .hexChar c => [0x10, c]
  | .hexEnd => [0x11, 0x00]
  | .sesStart => [0x20, 0x00]
  | .recData address payload cc => encodeLine 0x00 address payload cc
  | .recEof address payload cc => encodeLine 0x01 address payload cc
  | .recExtAddr address payload cc => encodeLine 0x02 address payload cc
  | .recUnsupported tt address payload cc => encodeLine tt address payload cc
  | .txResetFrame => resetFrame
  | .txPing1 => [0x1B]
  | .txPing2 => [0xAA]
  | .txReadSig => [0x74]
  | .txSetDev sig => [0x54, sig]
  | .txReadVer => [0x56]
  | .txReadBsize => [0x62]
  | .txEraseSize size => 0x58 :: be24 size
  | .txErase => [0x65]
  | .txSetAddr => [0x41, 0x00, 0x00]
  | .txBlock (.header bs) => 0x42 :: (be16 bs ++ [0x46])
  | .txBlock (.data chunk) => chunk
  | .txBlock (.crc c) => be16 c
  | .txExit => [0x45]
  | .rxIdent => identBytes
  | .rxSigReply s0 s1 => [s0, s1]
  | .rxOk => [0x0D]
  | .rxVerReply content => content
  | .rxBsizeReply hi lo => [0x59, hi, lo]

/-- The place in which an instruction's bytes stand. -/
def formatOf : Instr → Format
  | .crcInit => .cw
  | .crcUpdate _ => .cw
  | .crcResult => .cw
  | .hexChar _ => .cw
  | .hexEnd => .cw
  | .sesStart => .cw
  | .recData _ _ _ => .hexLine
  | .recEof _ _ _ => .hexLine
  | .recExtAddr _ _ _ => .hexLine
  | .recUnsupported _ _ _ _ => .hexLine
  | .txResetFrame => .tx
  | .txPing1 => .tx
  | .txPing2 => .tx
  | .txReadSig => .tx
  | .txSetDev _ => .tx
  | .txReadVer => .tx
  | .txReadBsize => .tx
  | .txEraseSize _ => .tx
  | .txErase => .tx
  | .txSetAddr => .tx
  | .txBlock (.header _) => .tx
  | .txBlock (.data chunk) => .txChunk chunk.length
  | .txBlock (.crc _) => .txCrc
  | .txExit => .tx
  | .rxIdent => .rx .ident
  | .rxSigReply _ _ => .rx .sig
  | .rxOk => .rx .ok
  | .rxVerReply _ => .rx .ver
  | .rxBsizeReply _ _ => .rx .bsize

/-- The lengths that the parameters fix (R86): a record's line is at least `MIN_LINE_LEN` long, a version reply is
`V_RESP_LEN` long. Every other instruction has one length. -/
def fitsParams (par : Params) (i : Instr) : Bool :=
  match formatOf i with
  | .hexLine => decide (par.minLineLen ≤ (encode i).length)
  | .rx .ver => decide ((encode i).length = par.vRespLen)
  | _ => true

/-! ## The opcode table's words -/

/-- `n` bytes of a number, the most significant first: the order in which the table writes a row's match value ("first
byte first"; log 5). -/
def bytesBE : Nat → Nat → List Byte
  | 0, _ => []
  | n + 1, w => BitVec.ofNat 8 (w >>> (8 * n)) :: bytesBE n w

/-- The line of a record with this TT byte and every other field zero (R76). -/
def tableLine (tt : Byte) : List Byte := encodeLine tt 0 [] 0

/-- The place and the bytes of an opcode-table word. The table numbers the words of four formats side by side and the
number of bits tells them apart only in part; where two formats have rows of one width, this order decides (log 5). -/
def tableForm (nbits w : Nat) : Format × List Byte :=
  let bytes := bytesBE (nbits / 8) w
  match bytes with
  | [] => (.rx .ver, List.replicate Config.params.vRespLen 0)
  | [c] =>
    if c = 0x0D then (.rx .ok, bytes)
    else
      match decodeTx bytes with
      | .ok _ => (.tx, bytes)
      | .error _ => (.hexLine, tableLine c)
  | [c, x] =>
    if c = 0x54 then (.tx, bytes)
    else if c = 0 ∧ x = 0 then (.rx .sig, bytes)
    else (.cw, bytes)
  | [c, _, _] => if c = 0x59 then (.rx .bsize, bytes) else (.tx, bytes)
  | [_, _, _, _] => if bytes = identBytes then (.rx .ident, bytes) else (.tx, bytes)
  | _ => (.tx, bytes)

/-- The instruction the decoder reads from a word of the opcode table, of `nbits` bits. -/
def decodeTableWord (nbits w : Nat) : Option Instr :=
  let (fmt, bytes) := tableForm nbits w
  match decode Config.params fmt bytes with
  | .ok i => some i
  | .error _ => none

end Sys2Proof
end

