-- ==== Sys2Proof/Machine/State.lean ====
section
/-! DEFINITION. The state of the block as plain data (10_state.md R20 to R45), the reasons a step can stop, and the
state after reset. -/

namespace Sys2Proof.Machine

/-! ## Control points and codes -/

/-- `hx_state` (10_state.md R25). -/
inductive HexState where
  | seek
  | collect
  | done
  | error
deriving DecidableEq, Repr

/-- `ses_state` (R35). -/
inductive SesState where
  | idle
  | discovering
  | signatureExchange
  | deviceConfigured
  | flashCleared
  | transferring
  | complete
  | failed
deriving DecidableEq, Repr

/-- `ses_step`: the labels of the table in R36. `stepNone` is NONE, `stepEnd` is END. -/
inductive SesStep where
  | stepNone
  | dReset
  | dSettle
  | dPing1
  | dGap1
  | dScan1
  | dPing2
  | dGap2
  | dScan2
  | sigSend
  | sigWait
  | setdevSend
  | setdevWait
  | verSend
  | verWait
  | bsizeSend
  | bsizeWait
  | xsizeSend
  | xsizeWait
  | eraseSend
  | eraseWait
  | addrSend
  | addrWait
  | blkHdr
  | blkData
  | blkCrc
  | blkWait
  | exitSend
  | stepEnd
deriving DecidableEq, Repr

/-- `w_phase` (R36; 42_session.md R164). -/
inductive WPhase where
  | sleep
  | read
deriving DecidableEq, Repr

/-- `hx_code`: no error, or one of U2's errors (60_exceptions.md R232). No other value is ever written. -/
inductive HexCode where
  | noError
  | lineTooShort
  | badHexDigit
  | lengthMismatch
  | lineTooLong
  | checksumMismatch
  | nonContiguousData
  | nonContiguousSegment
  | unsupportedRecord
  | totalMismatch
  | missingEof
  | emptyImage
  | badExtAddr
  | imageOverflow
deriving DecidableEq, Repr

/-- `ses_code`: no error, or one of U3's errors (R232). No other value is ever written. -/
inductive SesCode where
  | noError
  | discoveryTimeout
  | responseTimeout
  | responseTooLong
  | notOk
  | unknownSignature
  | identityMismatch
  | badMarker
  | zeroBlockSize
  | eraseSizeRange
  | noImage
  | ioFailure
deriving DecidableEq, Repr

/-- `ses_op` (the second table of 10_state.md R40). `opNone` is NONE. -/
inductive SesOp where
  | opNone
  | resetFrame
  | ping
  | discovery
  | sig
  | setdev
  | ver
  | bsize
  | xsize
  | erase
  | setaddr
  | block
  | exit
  | start
deriving DecidableEq, Repr

/-! ## Memory -/

/-- The image memory (20_memory.md R50): the cells written since RST, at strictly rising addresses. An unlisted cell has
no value (R272; log 7). -/
abbrev Memory := List Host.Cell

/-- The canonical form: addresses strictly rising, so that equal memories are equal lists. -/
abbrev Memory.wf (m : Memory) : Prop := (m.map Prod.fst).Pairwise (· < ·)

/-! ## The units -/

/-- U2, the HEX parser and image builder (10_state.md R25 to R32). -/
structure HexUnit where
  hxState : HexState
  line : List Byte
  lineNo : Word32
  recIndex : Word32
  curOff : Word32
  cursor : Word32
  image : Memory
  cksumBad : Word32
  hxCode : HexCode
  hxLine : Word32
  hxRec : Word32
  hxVal : Byte
  hxExp : Word32
  hxObs : Word32
deriving DecidableEq, Repr

/-- U3, the session engine, with its private CRC instance and the TX history (R23, R33 to R40, R42). -/
structure SesUnit where
  crcS : Word16
  t : Nat
  t0 : Nat
  wStart : Nat
  matchIdx : Nat
  sesState : SesState
  sesStep : SesStep
  wPhase : WPhase
  rxbuf : List Byte
  sig : Byte
  kind : Option DeviceKind
  expKind : Option DeviceKind
  blockSize : Word16
  blk : Word32
  nblocks : Word32
  sesCode : SesCode
  sesOp : SesOp
  sesExp : Word32
  sesObs : Word32
  sesVal : Byte
  sesBlk : Word32
  tx : List Byte
deriving DecidableEq, Repr

/-! ## The environment -/

/-- One move of the environment's schedule (20_memory.md R59: U3 steps and HOST control words interleave in any order;
log 2, log 3). -/
inductive Event where
  /-- The HOST issues a control word (30_encoding.md R70). -/
  | word (w : Word16)
  /-- RST is asserted (70_reset_and_hazards.md R270). -/
  | rst
  /-- The HOST sets its input EXPECTED_KIND (R273 step 5; log 18). -/
  | expect (k : Option DeviceKind)
  /-- U3 takes its step, if it has one (42_session.md R161). -/
  | u3
deriving DecidableEq, Repr

/-- The model's own record of the environment: what happens next and what LINK and TIME will answer. It is no state of
the block (10_state.md R20); log 2 says how it stands for the draws. -/
structure Env where
  /-- What happens next, the first first; when it is empty, U3 has the turn. -/
  events : List Event
  /-- The answers to the coming Sends (20_memory.md R60). -/
  sends : List SendDraw
  /-- The answers to the coming reads (R61). -/
  reads : List ReadDraw
  /-- The jitter of the coming Sleeps (R62). -/
  jitters : List Nat
  /-- How many free answers were drawn where those lists were empty. -/
  drawn : Nat
  /-- The input EXPECTED_KIND, before SES.START samples it (R160). -/
  expectedKind : Option DeviceKind
deriving DecidableEq, Repr

/-- The whole state. -/
structure State where
  /-- The parameters of 00_scope.md R5, constant in a run (log 1). -/
  par : Params
  /-- The environment (log 2). -/
  env : Env
  /-- `crc_h`, all of U1 (10_state.md R22). -/
  crcH : Word16
  u2 : HexUnit
  u3 : SesUnit
  /-- The sticky mark of a refused control word (R41). -/
  refused : Bool
deriving DecidableEq, Repr

/-! ## Stops -/

/-- Why the model stops in a state no run of the block reaches. Each is SAFE: the model stops where the spec gives the
block nothing to do (log 7, log 8). -/
inductive Fault where
  /-- Raised by a chunk read of an image cell below `total_bytes` that nothing has written (20_memory.md R55). Safe. -/
  | unwrittenCell (a : Nat)
  /-- Raised by a chunk read of an address at or past `IMAGE_CAPACITY`: no such cell exists (R50). Safe. -/
  | noSuchCell (a : Nat)
  /-- Raised by the block count of 43_block_transfer.md R201 while `block_size` is 0: the division is defined only for
  a block size of at least 1. Safe. -/
  | blockCountUndefined
  /-- Raised by the erase decision of 42_session.md R174 while `kind` is none: NEEDS_ERASE_SIZE has no argument.
  Safe. -/
  | noDeviceKind
deriving DecidableEq, Repr

/-- Why the model gives an instruction no meaning. -/
inductive Refusal where
  /-- Raised by `exec` for an instruction whose meaning is not written yet; none is left. Safe. -/
  | notModelled (mnemonic : String)
deriving DecidableEq, Repr

/-! ## Reset -/

/-- U2 after RST (10_state.md R45). -/
def hexReset : HexUnit where
  hxState := .seek
  line := []
  lineNo := 1
  recIndex := 0
  curOff := 0
  cursor := 0
  image := []
  cksumBad := 0
  hxCode := .noError
  hxLine := 0
  hxRec := 0
  hxVal := 0
  hxExp := 0
  hxObs := 0

/-- U3 after RST (R45). -/
def sesReset : SesUnit where
  crcS := 0xFFFF
  t := 0
  t0 := 0
  wStart := 0
  matchIdx := 0
  sesState := .idle
  sesStep := .stepNone
  wPhase := .sleep
  rxbuf := []
  sig := 0x00
  kind := none
  expKind := none
  blockSize := 0
  blk := 0
  nblocks := 0
  sesCode := .noError
  sesOp := .opNone
  sesExp := 0
  sesObs := 0
  sesVal := 0
  sesBlk := 0
  tx := []

/-- An environment that has nothing lined up (log 2, log 18). -/
def envReset : Env where
  events := []
  sends := []
  reads := []
  jitters := []
  drawn := 0
  expectedKind := none

/-- The machine right after reset (R45; 70_reset_and_hazards.md R270, R271). -/
def State.reset : State where
  par := Config.params
  env := envReset
  crcH := 0xFFFF
  u2 := hexReset
  u3 := sesReset
  refused := false

end Sys2Proof.Machine
end

