-- ==== Sys2Proof/Machine/Ops.lean ====
section
/-! DEFINITION. The operations every meaning shares: the image memory, the link, the time base, the two fault entries
(60_exceptions.md R230, R231), the start of a wait, the refused mark and RST. The block has no return from a fault
(R261): RST is the only way out. -/

namespace Sys2Proof.Machine

/-! ## Numbers stored in u32 elements -/

/-- A number as a u32 element holds it. Where the number does not fit, the spec states no value and the element holds a
free one (log 13). -/
def toU32 (n : Nat) : Word32 :=
  if n < 2 ^ 32 then BitVec.ofNat 32 n else Config.u32Overflow n

/-- `x + 1` on a u32 counter. -/
def bump (x : Word32) : Word32 := toU32 (x.toNat + 1)

/-! ## Image memory (20_memory.md R50 to R55) -/

/-- What an address holds, if anything was written there. -/
def memRead? (m : Memory) (a : Nat) : Option Byte :=
  match m with
  | [] => none
  | (x, b) :: rest => if x = a then some b else memRead? rest a

/-- `MemWrite(a, 1, v)` (R52), keeping the addresses strictly rising. -/
def memWrite (m : Memory) (a : Nat) (v : Byte) : Memory :=
  match m with
  | [] => [(a, v)]
  | (x, b) :: rest =>
    if a < x then (a, v) :: (x, b) :: rest
    else if a = x then (a, v) :: rest
    else (x, b) :: memWrite rest a v

/-- The bytes of a payload at consecutive addresses from `a` (R53). -/
def memWriteBytes (m : Memory) (a : Nat) (bytes : List Byte) : Memory :=
  match bytes with
  | [] => m
  | v :: rest => memWriteBytes (memWrite m a v) (a + 1) rest

/-- `MemRead(a, 1)` (R51): only cells below the capacity exist, and only written ones have a value (R55; log 7). -/
def memRead (capacity : Word32) (m : Memory) (a : Nat) : Except Fault Byte :=
  if a < capacity.toNat then
    match memRead? m a with
    | some b => .ok b
    | none => .error (.unwrittenCell a)
  else .error (.noSuchCell a)

/-! ## Fault entries -/

/-- `HexError(code, val, exp, obs)`, U2's fault entry (60_exceptions.md R231): the position is the current one (R125). -/
def hexError (code : HexCode) (val : Byte) (exp obs : Word32) (u : HexUnit) : HexUnit :=
  { u with
    hxCode := code, hxLine := u.lineNo, hxRec := u.recIndex, hxVal := val, hxExp := exp, hxObs := obs,
    hxState := .error }

/-- `Fail(code, op, exp, obs, val, blk)`, U3's fault entry (R230). -/
def sesFail (code : SesCode) (op : SesOp) (exp obs : Word32) (val : Byte) (blk : Word32) (s : State) : State :=
  { s with u3 :=
    { s.u3 with
      sesCode := code, sesOp := op, sesExp := exp, sesObs := obs, sesVal := val, sesBlk := blk,
      sesState := .failed, sesStep := .stepEnd, wPhase := .sleep } }

/-! ## Link and time (20_memory.md R60 to R62) -/

/-- The answer to the coming Send: the listed one, or a free one. -/
def drawSend (s : State) : SendDraw × State :=
  match s.env.sends with
  | d :: rest => (d, { s with env := { s.env with sends := rest } })
  | [] => (Config.sendDraw s.env.drawn, { s with env := { s.env with drawn := s.env.drawn + 1 } })

/-- The answer to the coming read. -/
def drawRead (s : State) : ReadDraw × State :=
  match s.env.reads with
  | d :: rest => (d, { s with env := { s.env with reads := rest } })
  | [] => (Config.readDraw s.env.drawn, { s with env := { s.env with drawn := s.env.drawn + 1 } })

/-- The jitter of the coming Sleep. -/
def drawJitter (s : State) : Nat × State :=
  match s.env.jitters with
  | j :: rest => (j, { s with env := { s.env with jitters := rest } })
  | [] => (Config.jitter s.env.drawn, { s with env := { s.env with drawn := s.env.drawn + 1 } })

/-- Bytes handed to the link (10_state.md R42). -/
def appendTx (m : List Byte) (s : State) : State :=
  { s with u3 := { s.u3 with tx := s.u3.tx ++ m } }

/-- `Send(m)` (20_memory.md R60), with `op` and `blk` as a failing Send records them (60_exceptions.md R256): when all of
`m` went out the step goes on with `onOk`; after IOError(p) the first `p` bytes, fewer than all (log 12), stay in `tx`
and U3 fails. -/
def sendMsg (op : SesOp) (blk : Word32) (m : List Byte) (onOk : State → State) (s : State) : State :=
  match (drawSend s).1 with
  | .ok => onOk (appendTx m (drawSend s).2)
  | .ioError p =>
    let sent := min p (m.length - 1)
    sesFail .ioFailure op (toU32 m.length) (toU32 sent) 0 blk (appendTx (m.take sent) (drawSend s).2)

/-- `Sleep(d)` (20_memory.md R62): the only step that moves the time. -/
def sleepFor (d : Nat) (s : State) : State :=
  let s' := (drawJitter s).2
  { s' with u3 := { s'.u3 with t := s'.u3.t + d + (drawJitter s).1 } }

/-! ## Control points of U3 -/

/-- U3 goes to a step of the same stage. -/
def goStep (step : SesStep) (s : State) : State :=
  { s with u3 := { s.u3 with sesStep := step } }

/-- U3 enters a stage at its first step. -/
def goStage (stage : SesState) (step : SesStep) (s : State) : State :=
  { s with u3 := { s.u3 with sesState := stage, sesStep := step } }

/-- `StartWait` at the end of a Send's step, then the wait's own step (42_session.md R164). -/
def startWait (step : SesStep) (s : State) : State :=
  { s with u3 := { s.u3 with rxbuf := [], wStart := s.u3.t, wPhase := .sleep, sesStep := step } }

/-- A wait goes from its SLEEP phase to its READ phase (R164). -/
def toRead (s : State) : State := { s with u3 := { s.u3 with wPhase := .read } }

/-- A wait that goes on returns to its SLEEP phase (R164). -/
def toSleep (s : State) : State := { s with u3 := { s.u3 with wPhase := .sleep } }

/-- The discovery deadline counts from now (R165). -/
def startDiscovery (s : State) : State := { s with u3 := { s.u3 with t0 := s.u3.t } }

/-! ## Refused words and reset -/

/-- A reserved control word: the mark is set and no unit's state changes (30_encoding.md R74; log 6). -/
def refuseWord (s : State) : State := { s with refused := true }

/-- RST (70_reset_and_hazards.md R270): every element of 10_state.md R45 at its reset value, in one step. The
parameters and the environment are no elements of the block and stay (log 20). -/
def applyReset (s : State) : State :=
  { par := s.par, env := s.env, crcH := 0xFFFF, u2 := hexReset, u3 := sesReset, refused := false }

/-- The environment's schedule with its first move taken. -/
def withEvents (events : List Event) (s : State) : State :=
  { s with env := { s.env with events := events } }

/-- The HOST sets its input EXPECTED_KIND (R273 step 5): no state of the block changes (log 18). -/
def setExpected (k : Option DeviceKind) (s : State) : State :=
  { s with env := { s.env with expectedKind := k } }

end Sys2Proof.Machine
end

