-- ==== Sys2Proof/Machine/Flags.lean ====
section
/-! DEFINITION. What is a function of the state and not stored: the derived flags of 10_state.md R44, the codes of the
labels, and the read-only status ports of R43. -/

namespace Sys2Proof.Machine

/-! ## Codes -/

/-- The code of `hx_state` (R25). -/
def hexStateCode : HexState → BitVec 2
  | .seek => 0
  | .collect => 1
  | .done => 2
  | .error => 3

/-- The code of `ses_state` (R35). -/
def sesStateCode : SesState → BitVec 3
  | .idle => 0
  | .discovering => 1
  | .signatureExchange => 2
  | .deviceConfigured => 3
  | .flashCleared => 4
  | .transferring => 5
  | .complete => 6
  | .failed => 7

/-- The code of `ses_step` (the table of R36). -/
def sesStepCode : SesStep → Byte
  | .stepNone => 0x00
  | .dReset => 0x01
  | .dSettle => 0x02
  | .dPing1 => 0x03
  | .dGap1 => 0x04
  | .dScan1 => 0x05
  | .dPing2 => 0x06
  | .dGap2 => 0x07
  | .dScan2 => 0x08
  | .sigSend => 0x10
  | .sigWait => 0x11
  | .setdevSend => 0x20
  | .setdevWait => 0x21
  | .verSend => 0x22
  | .verWait => 0x23
  | .bsizeSend => 0x24
  | .bsizeWait => 0x25
  | .xsizeSend => 0x30
  | .xsizeWait => 0x31
  | .eraseSend => 0x32
  | .eraseWait => 0x33
  | .addrSend => 0x40
  | .addrWait => 0x41
  | .blkHdr => 0x42
  | .blkData => 0x43
  | .blkCrc => 0x44
  | .blkWait => 0x45
  | .exitSend => 0x50
  | .stepEnd => 0xFF

/-- The code of `w_phase` (R36). -/
def wPhaseCode : WPhase → BitVec 1
  | .sleep => 0
  | .read => 1

/-- The value of `hx_code` (60_exceptions.md R232). -/
def hexCodeValue : HexCode → Byte
  | .noError => 0x00
  | .lineTooShort => 0x11
  | .badHexDigit => 0x12
  | .lengthMismatch => 0x13
  | .lineTooLong => 0x14
  | .checksumMismatch => 0x15
  | .nonContiguousData => 0x21
  | .nonContiguousSegment => 0x22
  | .unsupportedRecord => 0x23
  | .totalMismatch => 0x24
  | .missingEof => 0x25
  | .emptyImage => 0x26
  | .badExtAddr => 0x27
  | .imageOverflow => 0x28

/-- The value of `ses_code` (R232). -/
def sesCodeValue : SesCode → Byte
  | .noError => 0x00
  | .discoveryTimeout => 0x31
  | .responseTimeout => 0x32
  | .responseTooLong => 0x33
  | .notOk => 0x34
  | .unknownSignature => 0x35
  | .identityMismatch => 0x36
  | .badMarker => 0x37
  | .zeroBlockSize => 0x38
  | .eraseSizeRange => 0x39
  | .noImage => 0x3A
  | .ioFailure => 0x41

/-- The value of `ses_op` (the second table of 10_state.md R40). -/
def sesOpValue : SesOp → Byte
  | .opNone => 0
  | .resetFrame => 1
  | .ping => 2
  | .discovery => 3
  | .sig => 4
  | .setdev => 5
  | .ver => 6
  | .bsize => 7
  | .xsize => 8
  | .erase => 9
  | .setaddr => 10
  | .block => 11
  | .exit => 12
  | .start => 13

/-- The stage in which a step lies (the third column of R36's table). END lies in COMPLETE or FAILED and starts
nothing; it is listed under COMPLETE. -/
def stepStage : SesStep → SesState
  | .stepNone => .idle
  | .dReset => .discovering
  | .dSettle => .discovering
  | .dPing1 => .discovering
  | .dGap1 => .discovering
  | .dScan1 => .discovering
  | .dPing2 => .discovering
  | .dGap2 => .discovering
  | .dScan2 => .discovering
  | .sigSend => .signatureExchange
  | .sigWait => .signatureExchange
  | .setdevSend => .deviceConfigured
  | .setdevWait => .deviceConfigured
  | .verSend => .deviceConfigured
  | .verWait => .deviceConfigured
  | .bsizeSend => .deviceConfigured
  | .bsizeWait => .deviceConfigured
  | .xsizeSend => .flashCleared
  | .xsizeWait => .flashCleared
  | .eraseSend => .flashCleared
  | .eraseWait => .flashCleared
  | .addrSend => .transferring
  | .addrWait => .transferring
  | .blkHdr => .transferring
  | .blkData => .transferring
  | .blkCrc => .transferring
  | .blkWait => .transferring
  | .exitSend => .complete
  | .stepEnd => .complete

/-! ## Derived flags (10_state.md R44) -/

/-- `image_ready`. -/
def imageReady (s : State) : Bool := decide (s.u2.hxState = .done)

/-- `hex_failed`. -/
def hexFailed (s : State) : Bool := decide (s.u2.hxState = .error)

/-- `ses_active`: U3 has a step. -/
def sesActive (s : State) : Bool :=
  decide (s.u3.sesState ≠ .idle ∧ s.u3.sesState ≠ .failed ∧ s.u3.sesStep ≠ .stepEnd)

/-- `ses_done`. -/
def sesDone (s : State) : Bool := decide (s.u3.sesState = .complete ∧ s.u3.sesStep = .stepEnd)

/-- `ses_failed`. -/
def sesFailed (s : State) : Bool := decide (s.u3.sesState = .failed)

/-! ## Status ports (R43) -/

/-- P20 OUTCOME: 2 on any failure, 1 when the session is done over a done image, else 0 (R43; 60_exceptions.md R268;
log 14). -/
def outcome (s : State) : BitVec 2 :=
  if sesFailed s || hexFailed s then 2
  else if sesDone s && imageReady s then 1
  else 0

/-- The output ports P0 to P22. -/
inductive Port where
  | crcOut
  | hexState
  | hexTotal
  | hexCode
  | hexLine
  | hexRec
  | hexVal
  | cksumBad
  | sesState
  | sesStep
  | sesCode
  | sesOp
  | sesExp
  | sesObs
  | sesVal
  | sesBlk
  | devSig
  | devKind
  | blockSize
  | blkIndex
  | outcome
  | hexExp
  | hexObs
deriving DecidableEq, Repr

/-- What a port shows: bits of its width, or for P17 the abstract kind. -/
inductive PortValue where
  | bits (width : Nat) (v : BitVec width)
  | kind (k : Option DeviceKind)
deriving DecidableEq, Repr

/-- A port read: no side effect, no change of state (R43). -/
def readPort (s : State) : Port → PortValue
  | .crcOut => .bits 16 s.crcH
  | .hexState => .bits 2 (hexStateCode s.u2.hxState)
  | .hexTotal => .bits 32 s.u2.cursor
  | .hexCode => .bits 8 (hexCodeValue s.u2.hxCode)
  | .hexLine => .bits 32 s.u2.hxLine
  | .hexRec => .bits 32 s.u2.hxRec
  | .hexVal => .bits 8 s.u2.hxVal
  | .cksumBad => .bits 32 s.u2.cksumBad
  | .sesState => .bits 3 (sesStateCode s.u3.sesState)
  | .sesStep => .bits 8 (sesStepCode s.u3.sesStep)
  | .sesCode => .bits 8 (sesCodeValue s.u3.sesCode)
  | .sesOp => .bits 8 (sesOpValue s.u3.sesOp)
  | .sesExp => .bits 32 s.u3.sesExp
  | .sesObs => .bits 32 s.u3.sesObs
  | .sesVal => .bits 8 s.u3.sesVal
  | .sesBlk => .bits 32 s.u3.sesBlk
  | .devSig => .bits 8 s.u3.sig
  | .devKind => .kind s.u3.kind
  | .blockSize => .bits 16 s.u3.blockSize
  | .blkIndex => .bits 32 s.u3.blk
  | .outcome => .bits 2 (outcome s)
  | .hexExp => .bits 32 s.u2.hxExp
  | .hexObs => .bits 32 s.u2.hxObs

end Sys2Proof.Machine
end

