-- ==== Sys2Proof/Machine/Crc.lean ====
section
/-! DEFINITION. U1, the CRC unit (40_crc.md): the shared step function and the three control words. -/

namespace Sys2Proof.Machine

/-- One shift step of R103: left by one, and the polynomial where the bit shifted out was 1. -/
def crcShift (poly c : Word16) : Word16 :=
  if c.msb then (c <<< 1) ^^^ poly else c <<< 1

/-- `n` shift steps. -/
def crcShifts (poly : Word16) : Nat → Word16 → Word16
  | 0, c => c
  | n + 1, c => crcShifts poly n (crcShift poly c)

/-- `CrcStep(c, b)` for a polynomial and a number of iterations (R103): the byte enters at bits 15:8. -/
def crcStepWith (poly : Word16) (iters : Nat) (c : Word16) (b : Byte) : Word16 :=
  crcShifts poly iters (c ^^^ (b.setWidth 16 <<< 8))

/-- `CrcStep(c, b)` with the block's parameters (R103). -/
def crcStep (par : Params) (c : Word16) (b : Byte) : Word16 :=
  crcStepWith par.crcPoly par.crcIters c b

/-- `CrcStep` folded over bytes, from `c`. -/
def crcFold (par : Params) (c : Word16) : List Byte → Word16
  | [] => c
  | b :: rest => crcFold par (crcStep par c b) rest

/-- `CrcOf(bs)`, from the seed (R104). -/
def crcOf (par : Params) (bytes : List Byte) : Word16 :=
  crcFold par Config.crcSeed bytes

/-- CRC.INIT (R100). -/
def execCrcInit (s : State) : Host.Outcome State Fault Refusal :=
  .next { s with crcH := Config.crcSeed }

/-- CRC.UPDATE b (R101). -/
def execCrcUpdate (b : Byte) (s : State) : Host.Outcome State Fault Refusal :=
  .next { s with crcH := crcStep s.par s.crcH b }

/-- CRC.RESULT (R102): no state is written; the word's result is `wordResult`. -/
def execCrcResult (s : State) : Host.Outcome State Fault Refusal :=
  .next s

/-- What a control word hands back to the HOST: CRC.RESULT returns `crc_h`, every other instruction returns nothing
(R102; log 15). -/
def wordResult (i : Instr) (s : State) : Option Word16 :=
  if i = .crcResult then some s.crcH else none

end Sys2Proof.Machine
end

