-- ==== Sys2Proof/Machine/Operands.lean ====
section
/-! DEFINITION. The operands that the session's messages take from the state: the image size, the chunk of a block, its
CRC, the number of blocks, the device kind (42_session.md R170, R174, R175; 43_block_transfer.md R200 to R206). -/

namespace Sys2Proof.Machine

/-- `total_bytes` (41_hex_parser.md R142). -/
def totalBytes (s : State) : Nat := s.u2.cursor.toNat

/-- `SIG_TABLE(sig)`: the kind of the first entry of this signature (42_session.md R170; log 16). -/
def sigKind (table : List (Byte × DeviceKind)) (sig : Byte) : Option DeviceKind :=
  match table with
  | [] => none
  | (x, k) :: rest => if x = sig then some k else sigKind rest sig

/-- `NEEDS_ERASE_SIZE(k)` (R174; log 16). -/
def needsEraseSize (par : Params) (k : DeviceKind) : Bool :=
  decide (k ∈ par.eraseKinds)

/-- One byte of a chunk, at image address `a`: the cell below `total_bytes`, the padding from there on
(43_block_transfer.md R202). -/
def chunkByte (s : State) (a : Nat) : Except Fault Byte :=
  if a < totalBytes s then memRead s.par.imageCapacity s.u2.image a else .ok s.par.padByte

/-- `n` chunk bytes from image address `a`. -/
def chunkFrom (s : State) (a : Nat) : Nat → Except Fault (List Byte)
  | 0 => .ok []
  | n + 1 =>
    match chunkByte s a with
    | .error f => .error f
    | .ok b =>
      match chunkFrom s (a + 1) n with
      | .error f => .error f
      | .ok rest => .ok (b :: rest)

/-- `Chunk(k)`: the `block_size` bytes from image address `k * block_size` (R202). -/
def chunk (s : State) (k : Nat) : Except Fault (List Byte) :=
  chunkFrom s (k * s.u3.blockSize.toNat) s.u3.blockSize.toNat

/-- `nblocks = ceil(total_bytes / block_size)` for a block size of at least 1 (R201). -/
def blockCount (total blockSize : Nat) : Nat :=
  (total + blockSize - 1) / blockSize

end Sys2Proof.Machine
end

