-- ==== Sys2Proof/Machine/Hex.lean ====
section
/-! DEFINITION. U2, the HEX record parser and image builder (41_hex_parser.md): the records a completed line decodes to,
and the control words HEX.CHAR and HEX.END that feed it. -/

namespace Sys2Proof.Machine

/-! ## The builder (R134 to R141) -/

/-- Record type 00 (R135): contiguity first, then the capacity (R136), then the payload at the cursor. -/
def buildData (par : Params) (address : Word16) (payload : List Byte) (u : HexUnit) : HexUnit :=
  let abs := u.curOff.toNat + address.toNat
  let next := u.cursor.toNat + payload.length
  let bb := BitVec.ofNat 8 payload.length
  if abs ≠ u.cursor.toNat then hexError .nonContiguousData bb u.cursor (toU32 abs) u
  else if par.imageCapacity.toNat < next then hexError .imageOverflow bb par.imageCapacity (toU32 next) u
  else { u with image := memWriteBytes u.image u.cursor.toNat payload, cursor := toU32 next }

/-- The offset of a type 02 record, from its first two payload bytes (30_encoding.md R81). -/
def extOffset (p0 p1 : Byte) : Word32 :=
  (p0.setWidth 32 <<< 12) + (p1.setWidth 32 <<< 4)

/-- Record type 02 (R137): two payload bytes at least, and no gap. The address field and later payload bytes are
ignored. -/
def buildExtAddr (payload : List Byte) (u : HexUnit) : HexUnit :=
  let bb := BitVec.ofNat 8 payload.length
  match payload with
  | p0 :: p1 :: _ =>
    if extOffset p0 p1 ≠ u.cursor then hexError .nonContiguousSegment p0 u.cursor (extOffset p0 p1) u
    else { u with curOff := extOffset p0 p1 }
  | _ => hexError .badExtAddr bb 2 (toU32 payload.length) u

/-- Record type 01 (R138): the total check of R139, whose sum of accepted byte counts is the number of cells written
(log 21), then the empty-image policy (R140). -/
def buildEof (par : Params) (u : HexUnit) : HexUnit :=
  if u.image.length ≠ u.cursor.toNat then hexError .totalMismatch 0 (toU32 u.image.length) u.cursor u
  else if u.cursor = 0 ∧ par.allowEmptyImage = false then hexError .emptyImage 0 1 0 u
  else { u with hxState := .done }

/-- Record types 03 to FF (R141). -/
def buildUnsupported (tt : Byte) (u : HexUnit) : HexUnit :=
  hexError .unsupportedRecord tt 0 0 u

/-- U2 as a record's builder sees it (R133, R134): a bad checksum is counted, and the line is cleared. -/
def afterDecode (sum : Byte) (u : HexUnit) : HexUnit :=
  { u with cksumBad := if sum = 0 then u.cksumBad else bump u.cksumBad, line := [] }

/-- U2 goes back to SEEK unless the record ended the parse (R134). -/
def backToSeek (u : HexUnit) : HexUnit :=
  if u.hxState = .collect then { u with hxState := .seek } else u

/-- What ProcessLine does with a decoded record (R134): the checksum policy (R133), then the record is applied by
`build`. -/
def acceptRecord (par : Params) (tt : Byte) (address : Word16) (payload : List Byte) (cc : Byte)
    (build : HexUnit → HexUnit) (u : HexUnit) : HexUnit :=
  let sum := recordSum tt address payload cc
  if sum ≠ 0 ∧ par.strictChecksum = true then
    hexError .checksumMismatch cc ((cc - sum).setWidth 32) (cc.setWidth 32) u
  else backToSeek (build (afterDecode sum u))

/-- A decoded Data record. -/
def recordData (par : Params) (address : Word16) (payload : List Byte) (cc : Byte) (u : HexUnit) : HexUnit :=
  acceptRecord par 0x00 address payload cc (buildData par address payload) u

/-- A decoded EndOfFile record: its address, byte count and payload are ignored but for the checksum (R138). -/
def recordEof (par : Params) (address : Word16) (payload : List Byte) (cc : Byte) (u : HexUnit) : HexUnit :=
  acceptRecord par 0x01 address payload cc (buildEof par) u

/-- A decoded ExtendedAddress record. -/
def recordExtAddr (par : Params) (address : Word16) (payload : List Byte) (cc : Byte) (u : HexUnit) : HexUnit :=
  acceptRecord par 0x02 address payload cc (buildExtAddr payload) u

/-- A decoded record of any other type. -/
def recordUnsupported (par : Params) (tt : Byte) (address : Word16) (payload : List Byte) (cc : Byte) (u : HexUnit) :
    HexUnit :=
  acceptRecord par tt address payload cc (buildUnsupported tt) u

/-- A decoded record, by its type (R134). -/
def runRecord (par : Params) (r : HexRecord) (u : HexUnit) : HexUnit :=
  match recType r.tt with
  | .data => recordData par r.address r.payload r.cc u
  | .eof => recordEof par r.address r.payload r.cc u
  | .extAddr => recordExtAddr par r.address r.payload r.cc u
  | .unsupported tt => recordUnsupported par tt r.address r.payload r.cc u

/-- The error register of a Decode error (R126 to R129); the line buffer keeps the offending line. -/
def raiseLineError (par : Params) (e : LineError) (u : HexUnit) : HexUnit :=
  match e with
  | .tooShort n => hexError .lineTooShort (BitVec.ofNat 8 n) (toU32 par.minLineLen) (toU32 n) u
  | .badDigit c i => hexError .badHexDigit c 0 (toU32 i) u
  | .lengthMismatch bb n => hexError .lengthMismatch bb (toU32 (11 + 2 * bb.toNat)) (toU32 n) u

/-- `ProcessLine()` (R134): decode the line, then run the record. -/
def processLine (par : Params) (u : HexUnit) : HexUnit :=
  match decodeLine par.minLineLen u.line with
  | .error e => raiseLineError par e u
  | .ok r => runRecord par r u

/-! ## Character input (R120 to R124) -/

/-- HEX.CHAR in SEEK (R120). -/
def seekChar (c : Byte) (u : HexUnit) : HexUnit :=
  if c = 0x3A then { u with recIndex := bump u.recIndex, line := [0x3A], hxState := .collect }
  else if c = 0x0A then { u with lineNo := bump u.lineNo }
  else u

/-- HEX.CHAR in COLLECT (R121, R122): a terminator completes the line, and only LF counts a line, after the line was
processed and raised no error (60_exceptions.md R231, R260; log 24); any other character is stored unless the buffer is
full. -/
def collectChar (par : Params) (c : Byte) (u : HexUnit) : HexUnit :=
  if c = 0x0D then processLine par u
  else if c = 0x0A then
    let u' := processLine par u
    if u'.hxState = .error then u' else { u' with lineNo := bump u'.lineNo }
  else if par.lineMax ≤ u.line.length then
    hexError .lineTooLong c (toU32 par.lineMax) (toU32 (par.lineMax + 1)) u
  else { u with line := u.line ++ [c] }

/-- HEX.CHAR c, in every state of U2 (R120 to R123). -/
def hexCharUnit (par : Params) (c : Byte) (u : HexUnit) : HexUnit :=
  match u.hxState with
  | .seek => seekChar c u
  | .collect => collectChar par c u
  | .done => u
  | .error => u

/-- MISSING_EOF (R124; 60_exceptions.md R242). -/
def missingEof (u : HexUnit) : HexUnit := hexError .missingEof 0 0 0 u

/-- HEX.END, in every state of U2 (R123, R124). -/
def hexEndUnit (par : Params) (u : HexUnit) : HexUnit :=
  match u.hxState with
  | .seek => missingEof u
  | .collect =>
    let u' := processLine par u
    if u'.hxState = .done ∨ u'.hxState = .error then u' else missingEof u'
  | .done => u
  | .error => u

/-! ## The meanings -/

/-- HEX.CHAR c (R120 to R123). -/
def execHexChar (c : Byte) (s : State) : Host.Outcome State Fault Refusal :=
  .next { s with u2 := hexCharUnit s.par c s.u2 }

/-- HEX.END (R124). -/
def execHexEnd (s : State) : Host.Outcome State Fault Refusal :=
  .next { s with u2 := hexEndUnit s.par s.u2 }

/-- A record is U2's instruction where a line has been collected (R122, R124, R134); elsewhere U2 has no such step and
nothing happens (log 9). -/
def whenCollecting (f : HexUnit → HexUnit) (s : State) : State :=
  if s.u2.hxState = .collect then { s with u2 := f s.u2 } else s

/-- REC.DATA (R135). -/
def execRecData (address : Word16) (payload : List Byte) (cc : Byte) (s : State) : Host.Outcome State Fault Refusal :=
  .next (whenCollecting (recordData s.par address payload cc) s)

/-- REC.EOF (R138). -/
def execRecEof (address : Word16) (payload : List Byte) (cc : Byte) (s : State) : Host.Outcome State Fault Refusal :=
  .next (whenCollecting (recordEof s.par address payload cc) s)

/-- REC.EXTADDR (R137). -/
def execRecExtAddr (address : Word16) (payload : List Byte) (cc : Byte) (s : State) :
    Host.Outcome State Fault Refusal :=
  .next (whenCollecting (recordExtAddr s.par address payload cc) s)

/-- REC.UNSUPPORTED (R141): its effect is the error. -/
def execRecUnsupported (tt : Byte) (address : Word16) (payload : List Byte) (cc : Byte) (s : State) :
    Host.Outcome State Fault Refusal :=
  .next (whenCollecting (recordUnsupported s.par tt address payload cc) s)

end Sys2Proof.Machine
end

