-- ==== Sys2Proof/Machine/Session.lean ====
section
/-! DEFINITION. U3, the bootloader session engine (42_session.md, 43_block_transfer.md): SES.START, the messages it
sends, the replies its waits collect, its Sleep and read steps, and the choice of its next step. -/

namespace Sys2Proof.Machine

/-! ## Control points -/

/-- U3 stands at this step: the pair (`ses_state`, `ses_step`) selects it (42_session.md R161, 10_state.md R36). -/
abbrev atStep (step : SesStep) (s : State) : Prop :=
  s.u3.sesState = stepStage step ∧ s.u3.sesStep = step

/-- U3 stands at this wait, about to read (R164). -/
abbrev atRead (step : SesStep) (s : State) : Prop :=
  atStep step s ∧ s.u3.wPhase = .read

/-- What U3 does at a step; at any other step it has no such move and nothing happens (R161; log 9). -/
def whenAt (step : SesStep) (f : State → State) (s : State) : State :=
  if atStep step s then f s else s

/-! ## SES.START (R160) -/

/-- SES.START: EXPECTED_KIND is sampled; START does nothing unless U3 is idle. -/
def execSesStart (s : State) : Host.Outcome State Fault Refusal :=
  .next
    (if s.u3.sesState = .idle then
      if s.u2.hxState = .done then
        goStage .discovering .dReset
          { s with u3 := { s.u3 with expKind := s.env.expectedKind, matchIdx := 0 } }
      else sesFail .noImage .start 0 0 ((hexStateCode s.u2.hxState).setWidth 8) 0 s
    else s)

/-! ## Messages (30_encoding.md R82) -/

/-- TX.RESET_FRAME (R165). -/
def execTxResetFrame (s : State) : Host.Outcome State Fault Refusal :=
  .next (whenAt .dReset (sendMsg .resetFrame 0 (encode .txResetFrame) (goStep .dSettle)) s)

/-- TX.PING1 (R166). -/
def execTxPing1 (s : State) : Host.Outcome State Fault Refusal :=
  .next (whenAt .dPing1 (sendMsg .ping 0 (encode .txPing1) (goStep .dGap1)) s)

/-- TX.PING2 (R166). -/
def execTxPing2 (s : State) : Host.Outcome State Fault Refusal :=
  .next (whenAt .dPing2 (sendMsg .ping 0 (encode .txPing2) (goStep .dGap2)) s)

/-- TX.READ_SIG (R169). -/
def execTxReadSig (s : State) : Host.Outcome State Fault Refusal :=
  .next (whenAt .sigSend (sendMsg .sig 0 (encode .txReadSig) (startWait .sigWait)) s)

/-- TX.SET_DEV (R172). -/
def execTxSetDev (sig : Byte) (s : State) : Host.Outcome State Fault Refusal :=
  .next (whenAt .setdevSend (sendMsg .setdev 0 (encode (.txSetDev sig)) (startWait .setdevWait)) s)

/-- TX.READ_VER (R173). -/
def execTxReadVer (s : State) : Host.Outcome State Fault Refusal :=
  .next (whenAt .verSend (sendMsg .ver 0 (encode .txReadVer) (startWait .verWait)) s)

/-- TX.READ_BSIZE (R174). -/
def execTxReadBsize (s : State) : Host.Outcome State Fault Refusal :=
  .next (whenAt .bsizeSend (sendMsg .bsize 0 (encode .txReadBsize) (startWait .bsizeWait)) s)

/-- The step XSIZE_SEND (R175): the range check stands before the Send. -/
def sendEraseSize (size : BitVec 24) (s : State) : State :=
  if 0xFFFFFF < totalBytes s then sesFail .eraseSizeRange .xsize 0xFFFFFF (toU32 (totalBytes s)) 0 0 s
  else sendMsg .xsize 0 (encode (.txEraseSize size)) (startWait .xsizeWait) s

/-- TX.ERASE_SIZE (R175). -/
def execTxEraseSize (size : BitVec 24) (s : State) : Host.Outcome State Fault Refusal :=
  .next (whenAt .xsizeSend (sendEraseSize size) s)

/-- TX.ERASE (R176). -/
def execTxErase (s : State) : Host.Outcome State Fault Refusal :=
  .next (whenAt .eraseSend (sendMsg .erase 0 (encode .txErase) (startWait .eraseWait)) s)

/-- TX.SET_ADDR (43_block_transfer.md R200). -/
def execTxSetAddr (s : State) : Host.Outcome State Fault Refusal :=
  .next (whenAt .addrSend (sendMsg .setaddr 0 (encode .txSetAddr) (startWait .addrWait)) s)

/-- The step BLK_CRC (R205, R206): `crc_s` becomes the CRC of the current chunk, then the CRC bytes go out. -/
def sendBlockCrc (c : Word16) (s : State) : Host.Outcome State Fault Refusal :=
  match chunk s s.u3.blk.toNat with
  | .error f => .fault f
  | .ok bytes =>
    .next
      (sendMsg .block s.u3.blk (encode (.txBlock (.crc c))) (startWait .blkWait)
        { s with u3 := { s.u3 with crcS := crcOf s.par bytes } })

/-- TX.BLOCK, the part that U3's step sends (R203, R204, R206). -/
def execTxBlock (part : BlockPart) (s : State) : Host.Outcome State Fault Refusal :=
  match part with
  | .header bs => .next (whenAt .blkHdr (sendMsg .block s.u3.blk (encode (.txBlock (.header bs))) (goStep .blkData)) s)
  | .data bytes => .next (whenAt .blkData (sendMsg .block s.u3.blk (encode (.txBlock (.data bytes))) (goStep .blkCrc)) s)
  | .crc c => if atStep .blkCrc s then sendBlockCrc c s else .next s

/-- TX.EXIT (R210). -/
def execTxExit (s : State) : Host.Outcome State Fault Refusal :=
  .next (whenAt .exitSend (sendMsg .exit 0 (encode .txExit) (goStep .stepEnd)) s)

/-! ## Replies (R84) -/

/-- RX.IDENT (42_session.md R166, R167): the matcher has seen all of "MKBL" at a scan point. -/
def execRxIdent (s : State) : Host.Outcome State Fault Refusal :=
  .next
    (if atStep .dScan1 s ∨ atStep .dScan2 s then
      goStage .signatureExchange .sigSend { s with u3 := { s.u3 with matchIdx := 4 } }
    else s)

/-- The lookup and the identity check that follow a signature reply (R170, R171). -/
def acceptSignature (s0 : Byte) (s : State) : State :=
  let found := sigKind s.par.sigTable s0
  let s' := { s with u3 := { s.u3 with sig := s0, kind := found } }
  if found = none then sesFail .unknownSignature .sig 2 2 s0 0 s'
  else if s.u3.expKind ≠ none ∧ s.u3.expKind ≠ found then sesFail .identityMismatch .sig 0 0 s0 0 s'
  else goStage .deviceConfigured .setdevSend s'

/-- RX.SIG_REPLY (R170, R171): the second byte is not examined. -/
def execRxSigReply (s0 s1 : Byte) (s : State) : Host.Outcome State Fault Refusal :=
  let _unexamined := s1
  .next (if atRead .sigWait s then acceptSignature s0 s else s)

/-- The step that accepts the `'A'` acknowledgement (43_block_transfer.md R200, R201). -/
def acceptAddress (s : State) : Host.Outcome State Fault Refusal :=
  if s.u3.blockSize = 0 then .fault .blockCountUndefined
  else
    let n := blockCount (totalBytes s) s.u3.blockSize.toNat
    let s' := { s with u3 := { s.u3 with nblocks := toU32 n, blk := 0 } }
    .next (if 0 < n then goStep .blkHdr s' else goStage .complete .exitSend s')

/-- The step that accepts a block's acknowledgement (R207). -/
def acceptBlock (s : State) : State :=
  let next := bump s.u3.blk
  let s' := { s with u3 := { s.u3 with blk := next } }
  if next < s.u3.nblocks then goStep .blkHdr s' else goStage .complete .exitSend s'

/-- RX.OK, at the wait that collected it (42_session.md R163, R172, R175, R176; 43_block_transfer.md R200, R207). -/
def execRxOk (s : State) : Host.Outcome State Fault Refusal :=
  if atRead .setdevWait s then .next (goStep .verSend s)
  else if atRead .xsizeWait s then .next (goStep .eraseSend s)
  else if atRead .eraseWait s then .next (goStage .transferring .addrSend s)
  else if atRead .addrWait s then acceptAddress s
  else if atRead .blkWait s then .next (acceptBlock s)
  else .next s

/-- RX.VER_REPLY (42_session.md R173): the content is not kept. -/
def execRxVerReply (content : List Byte) (s : State) : Host.Outcome State Fault Refusal :=
  let _unkept := content
  .next (if atRead .verWait s then goStep .bsizeSend s else s)

/-- The size check and the erase decision that follow a block-size reply whose marker was right (R174). -/
def acceptBlockSize (bs : Word16) (s : State) : Host.Outcome State Fault Refusal :=
  if bs = 0 then .next (sesFail .zeroBlockSize .bsize 3 3 0x00 0 s)
  else
    match s.u3.kind with
    | none => .fault .noDeviceKind
    | some k =>
      .next
        (goStage .flashCleared (if needsEraseSize s.par k = true then .xsizeSend else .eraseSend)
          { s with u3 := { s.u3 with blockSize := bs } })

/-- RX.BSIZE_REPLY (R174). -/
def execRxBsizeReply (hi lo : Byte) (s : State) : Host.Outcome State Fault Refusal :=
  if atRead .bsizeWait s then acceptBlockSize (hi ++ lo) s else .next s

/-! ## Waits -/

/-- A wait (42_session.md R164): every one has `min = max = len`. -/
structure WaitSpec where
  len : Nat
  timeout : Nat
  op : SesOp
  kind : ReplyKind
deriving DecidableEq, Repr

/-- The wait of a step (R169, R172 to R176; 43_block_transfer.md R200, R207; D22). -/
def waitOf (par : Params) : SesStep → Option WaitSpec
  | .sigWait => some ⟨2, par.tResp, .sig, .sig⟩
  | .setdevWait => some ⟨1, par.tResp, .setdev, .ok⟩
  | .verWait => some ⟨par.vRespLen, par.tResp, .ver, .ver⟩
  | .bsizeWait => some ⟨3, par.tResp, .bsize, .bsize⟩
  | .xsizeWait => some ⟨1, par.tErase, .xsize, .ok⟩
  | .eraseWait => some ⟨1, par.tErase, .erase, .ok⟩
  | .addrWait => some ⟨1, par.tResp, .setaddr, .ok⟩
  | .blkWait => some ⟨1, par.tResp, .block, .ok⟩
  | _ => none

/-- The block index a failing wait records: `blk` for a block, else 0 (43_block_transfer.md R207). -/
def waitBlk (s : State) : Word32 :=
  if s.u3.sesStep = .blkWait then s.u3.blk else 0

/-- What a read step came to: U3 has settled its next state, or the wait is satisfied and this reply is to run. -/
inductive ReadResult where
  | settled (s : State)
  | reply (i : Instr) (s : State)
deriving DecidableEq, Repr

/-- The failure of a reply that its wait does not accept (42_session.md R163, R174). A satisfied wait holds as many
bytes as its reply has, so the other errors do not arise. -/
def replyFail (w : WaitSpec) (e : ReplyError) (s : State) : State :=
  match e with
  | .notOk b => sesFail .notOk w.op 1 1 b (waitBlk s) s
  | .badMarker b => sesFail .badMarker w.op 3 3 b 0 s
  | .notIdent => s
  | .length _ => s

/-- The state of a read step that drew bytes: the wait's buffer has grown by them. -/
def withRx (r : List Byte) (s : State) : State :=
  let s' := (drawRead s).2
  { s' with u3 := { s'.u3 with rxbuf := s.u3.rxbuf ++ r } }

/-- The READ phase of a wait (R164), its checks in order (60_exceptions.md R258). -/
def waitRead (w : WaitSpec) (s : State) : ReadResult :=
  match (drawRead s).1 with
  | .ioError =>
    .settled (sesFail .ioFailure w.op (toU32 w.len) (toU32 s.u3.rxbuf.length) 0 (waitBlk s) (drawRead s).2)
  | .bytes r =>
    let buf := s.u3.rxbuf ++ r
    if w.len < buf.length then
      .settled (sesFail .responseTooLong w.op (toU32 w.len) (toU32 buf.length) 0 (waitBlk s) (withRx r s))
    else if w.len ≤ buf.length then
      match decodeRx s.par.vRespLen w.kind buf with
      | .ok i => .reply i (withRx r s)
      | .error e => .settled (replyFail w e (withRx r s))
    else if s.u3.wStart + w.timeout ≤ s.u3.t then
      .settled (sesFail .responseTimeout w.op (toU32 w.len) (toU32 buf.length) 0 (waitBlk s) (withRx r s))
    else .settled (toSleep (withRx r s))

/-! ## Discovery -/

/-- `Scan(r)` (42_session.md R167): the matcher's index after the bytes, and whether it has seen all of "MKBL"; what
follows the match is discarded. -/
def scanBytes (retest : Bool) (idx : Nat) : List Byte → Nat × Bool
  | [] => (idx, false)
  | x :: rest =>
    if identBytes[idx]? = some x then
      if idx + 1 = 4 then (4, true) else scanBytes retest (idx + 1) rest
    else scanBytes retest (if retest = true ∧ x = 0x4D then 1 else 0) rest

/-- The state of a scan point that drew bytes: the matcher has moved over them. -/
def withScan (r : List Byte) (s : State) : State :=
  let s' := (drawRead s).2
  { s' with u3 := { s'.u3 with matchIdx := (scanBytes s.par.matchRetest s.u3.matchIdx r).1 } }

/-- A scan point (R166, R168): a match wins over the deadline; otherwise the loop goes on at `again`. -/
def scanRead (again : SesStep) (s : State) : ReadResult :=
  match (drawRead s).1 with
  | .ioError => .settled (sesFail .ioFailure .discovery 4 (toU32 s.u3.matchIdx) 0 0 (drawRead s).2)
  | .bytes r =>
    let found := scanBytes s.par.matchRetest s.u3.matchIdx r
    if found.2 = true then .reply .rxIdent (withScan r s)
    else if s.u3.t0 + s.par.tDiscovery ≤ s.u3.t then
      .settled (sesFail .discoveryTimeout .discovery 4 (toU32 found.1) 0 0 (withScan r s))
    else .settled (goStep again (withScan r s))

/-! ## The step of U3 (R161) -/

/-- U3's read step: a scan point or the READ phase of a wait. -/
def u3Read (s : State) : ReadResult :=
  if s.u3.sesStep = .dScan1 then scanRead .dPing2 s
  else if s.u3.sesStep = .dScan2 then scanRead .dPing1 s
  else
    match waitOf s.par s.u3.sesStep with
    | some w => waitRead w s
    | none => .settled s

/-- U3's Sleep step: the settle delay, a ping gap, or the SLEEP phase of a wait (R164 to R166). -/
def u3Sleep (s : State) : State :=
  if s.u3.sesStep = .dSettle then goStep .dPing1 (startDiscovery (sleepFor s.par.tSettle s))
  else if s.u3.sesStep = .dGap1 then goStep .dScan1 (sleepFor s.par.tPing1 s)
  else if s.u3.sesStep = .dGap2 then goStep .dScan2 (sleepFor s.par.tPing2 s)
  else toRead (sleepFor s.par.tPoll s)

/-- The one step U3 has enabled: to send a message, to sleep, to read, or none. -/
inductive U3Action where
  | send (i : Instr)
  | sleep
  | read
  | idle
deriving DecidableEq, Repr

/-- The action of a wait's phase (R164). -/
def waitAction (s : State) : U3Action :=
  match s.u3.wPhase with
  | .sleep => .sleep
  | .read => .read

/-- U3's next action at a step, with the operands its message takes from the state (42_session.md R162;
43_block_transfer.md R200 to R210). -/
def u3ActionAt (s : State) : SesStep → Except Fault U3Action
  | .stepNone => .ok .idle
  | .dReset => .ok (.send .txResetFrame)
  | .dSettle => .ok .sleep
  | .dPing1 => .ok (.send .txPing1)
  | .dGap1 => .ok .sleep
  | .dScan1 => .ok .read
  | .dPing2 => .ok (.send .txPing2)
  | .dGap2 => .ok .sleep
  | .dScan2 => .ok .read
  | .sigSend => .ok (.send .txReadSig)
  | .sigWait => .ok (waitAction s)
  | .setdevSend => .ok (.send (.txSetDev s.u3.sig))
  | .setdevWait => .ok (waitAction s)
  | .verSend => .ok (.send .txReadVer)
  | .verWait => .ok (waitAction s)
  | .bsizeSend => .ok (.send .txReadBsize)
  | .bsizeWait => .ok (waitAction s)
  | .xsizeSend => .ok (.send (.txEraseSize (BitVec.ofNat 24 (totalBytes s))))
  | .xsizeWait => .ok (waitAction s)
  | .eraseSend => .ok (.send .txErase)
  | .eraseWait => .ok (waitAction s)
  | .addrSend => .ok (.send .txSetAddr)
  | .addrWait => .ok (waitAction s)
  | .blkHdr => .ok (.send (.txBlock (.header s.u3.blockSize)))
  | .blkData =>
    match chunk s s.u3.blk.toNat with
    | .error f => .error f
    | .ok bytes => .ok (.send (.txBlock (.data bytes)))
  | .blkCrc =>
    match chunk s s.u3.blk.toNat with
    | .error f => .error f
    | .ok bytes => .ok (.send (.txBlock (.crc (crcOf s.par bytes))))
  | .blkWait => .ok (waitAction s)
  | .exitSend => .ok (.send .txExit)
  | .stepEnd => .ok .idle

/-- U3's next action: at a step of its stage, that step's; elsewhere, and while `ses_active` is false, none (R161). -/
def u3Fetch (s : State) : Except Fault U3Action :=
  if s.u3.sesState = stepStage s.u3.sesStep then u3ActionAt s s.u3.sesStep else .ok .idle

/-! ## Placing an instruction where the next step fetches it (log 4) -/

/-- The move is the next one of the schedule. -/
def scheduleFirst (e : Event) (s : State) : State :=
  withEvents (e :: s.env.events) s

/-- U3 stands at a step. -/
def placeStep (step : SesStep) (s : State) : State :=
  goStage (stepStage step) step s

/-- U3 stands at the step that sends this message, with the message's operand where the step takes it from. -/
def placeTx (i : Instr) (s : State) : State :=
  match i with
  | .txResetFrame => placeStep .dReset s
  | .txPing1 => placeStep .dPing1 s
  | .txPing2 => placeStep .dPing2 s
  | .txReadSig => placeStep .sigSend s
  | .txSetDev sig => placeStep .setdevSend { s with u3 := { s.u3 with sig := sig } }
  | .txReadVer => placeStep .verSend s
  | .txReadBsize => placeStep .bsizeSend s
  | .txEraseSize size => placeStep .xsizeSend { s with u2 := { s.u2 with cursor := size.setWidth 32 } }
  | .txErase => placeStep .eraseSend s
  | .txSetAddr => placeStep .addrSend s
  | .txBlock (.header bs) => placeStep .blkHdr { s with u3 := { s.u3 with blockSize := bs } }
  | .txExit => placeStep .exitSend s
  | _ => s

/-- U3 stands where this kind of reply is collected, about to read these bytes. -/
def placeRx (kind : ReplyKind) (bytes : List Byte) (s : State) : State :=
  let s' := { s with
    env := { s.env with reads := .bytes bytes :: s.env.reads }
    u3 := { s.u3 with rxbuf := [], wPhase := .read, matchIdx := 0 } }
  match kind with
  | .ident => placeStep .dScan1 s'
  | .sig => placeStep .sigWait s'
  | .ok => placeStep .setdevWait s'
  | .ver => placeStep .verWait s'
  | .bsize => placeStep .bsizeWait s'

/-- The state in which the very next step runs these bytes: a control word is scheduled; a HEX line is collected and
its CR scheduled; U3 is at the step that sends the message, or at the wait that reads the reply, and has the turn. -/
def placeInstr (fmt : Format) (bytes : List Byte) (s : State) : State :=
  match fmt with
  | .cw =>
    match bytes with
    | [op, data] => scheduleFirst (.word (op ++ data)) s
    | _ => s
  | .hexLine =>
    scheduleFirst (.word 0x100D) { s with u2 := { s.u2 with hxState := .collect, line := bytes } }
  | .tx =>
    match decodeTx bytes with
    | .ok i => scheduleFirst .u3 (placeTx i s)
    | .error _ => s
  | .txChunk _ => s
  | .txCrc => s
  | .rx .ver => scheduleFirst .u3 (placeRx .ver (List.replicate s.par.vRespLen 0) s)
  | .rx kind => scheduleFirst .u3 (placeRx kind bytes s)

end Sys2Proof.Machine
end

