-- ==== Sys2Proof/Machine/Dispatch.lean ====
section
/-! DEFINITION. The meaning of every instruction, one arm each. -/

namespace Sys2Proof.Machine

def exec (i : Instr) (s : State) : Host.Outcome State Fault Refusal :=
  match i with
  | .crcInit => Sys2Proof.Machine.execCrcInit s
  | .crcUpdate b => Sys2Proof.Machine.execCrcUpdate b s
  | .crcResult => Sys2Proof.Machine.execCrcResult s
  | .hexChar c => Sys2Proof.Machine.execHexChar c s
  | .hexEnd => Sys2Proof.Machine.execHexEnd s
  | .sesStart => Sys2Proof.Machine.execSesStart s
  | .recData address payload cc => Sys2Proof.Machine.execRecData address payload cc s
  | .recEof address payload cc => Sys2Proof.Machine.execRecEof address payload cc s
  | .recExtAddr address payload cc => Sys2Proof.Machine.execRecExtAddr address payload cc s
  | .recUnsupported tt address payload cc => Sys2Proof.Machine.execRecUnsupported tt address payload cc s
  | .txResetFrame => Sys2Proof.Machine.execTxResetFrame s
  | .txPing1 => Sys2Proof.Machine.execTxPing1 s
  | .txPing2 => Sys2Proof.Machine.execTxPing2 s
  | .txReadSig => Sys2Proof.Machine.execTxReadSig s
  | .txSetDev sig => Sys2Proof.Machine.execTxSetDev sig s
  | .txReadVer => Sys2Proof.Machine.execTxReadVer s
  | .txReadBsize => Sys2Proof.Machine.execTxReadBsize s
  | .txEraseSize size => Sys2Proof.Machine.execTxEraseSize size s
  | .txErase => Sys2Proof.Machine.execTxErase s
  | .txSetAddr => Sys2Proof.Machine.execTxSetAddr s
  | .txBlock part => Sys2Proof.Machine.execTxBlock part s
  | .txExit => Sys2Proof.Machine.execTxExit s
  | .rxIdent => Sys2Proof.Machine.execRxIdent s
  | .rxSigReply s0 s1 => Sys2Proof.Machine.execRxSigReply s0 s1 s
  | .rxOk => Sys2Proof.Machine.execRxOk s
  | .rxVerReply content => Sys2Proof.Machine.execRxVerReply content s
  | .rxBsizeReply hi lo => Sys2Proof.Machine.execRxBsizeReply hi lo s

end Sys2Proof.Machine
end

