-- ==== Sys2Proof/Machine/Step.lean ====
section
/-! DEFINITION. One step of the block: the next move of the environment's schedule, or U3's own step
(20_memory.md R59; 42_session.md R161; log 2, log 3). -/

namespace Sys2Proof.Machine

/-- U3's turn (R161): it takes the one step it has enabled, or, where it has none, nothing happens
(60_exceptions.md R267). -/
def u3Turn (s : State) : Host.Outcome State Fault Refusal :=
  match u3Fetch s with
  | .error f => .fault f
  | .ok .idle => .next s
  | .ok .sleep => .next (u3Sleep s)
  | .ok (.send i) => exec i s
  | .ok .read =>
    match u3Read s with
    | .settled s' => .next s'
    | .reply i s' => exec i s'

/-- A control word of the HOST (30_encoding.md R70 to R74). -/
def wordStep (w : Word16) (s : State) : Host.Outcome State Fault Refusal :=
  match decodeCw w with
  | .ok i => exec i s
  | .error _ => .next (refuseWord s)

/-- One step. -/
def step (s : State) : Host.Outcome State Fault Refusal :=
  match s.env.events with
  | [] => u3Turn s
  | .word w :: rest => wordStep w (withEvents rest s)
  | .rst :: rest => .next (applyReset (withEvents rest s))
  | .expect k :: rest => .next (setExpected k (withEvents rest s))
  | .u3 :: rest => u3Turn (withEvents rest s)

/-- The state in which the very next step runs the instruction of an opcode-table word (log 4, log 5). -/
def State.withFetchWord (s : State) (nbits w : Nat) : State :=
  placeInstr (tableForm nbits w).1 (tableForm nbits w).2 s

end Sys2Proof.Machine
end

