-- ==== Sys2Proof/Machine/Pseudo.lean ====
section
/-! DEFINITION. The pseudo-operations of 30_encoding.md R75, as the moves of the HOST that they stand for. The block does
not decode them. -/

namespace Sys2Proof.Machine

/-- The control word of an operation and its data (R70). -/
def cw (op data : Byte) : Event := .word (op ++ data)

/-- `CRC.BLOCK b0 .. bn-1`. -/
def pseudoCrcBlock (bytes : List Byte) : List Event :=
  cw 0x01 0 :: bytes.map (cw 0x02)

/-- `HEX.LINE "s"`: the characters, then LF. -/
def pseudoHexLine (chars : List Byte) : List Event :=
  chars.map (cw 0x10) ++ [cw 0x10 0x0A]

/-- `HEX.FILE l1 .. lk`: every line, then HEX.END. -/
def pseudoHexFile (lines : List (List Byte)) : List Event :=
  lines.flatMap pseudoHexLine ++ [cw 0x11 0]

end Sys2Proof.Machine
end

