-- ==== Sys2Proof/Safety.lean ====
section
/-! DEFINITION. The terms claims are made in: the invariants of the block, and what U3 has sent at each of its steps
(43_block_transfer.md R211). -/

namespace Sys2Proof.Machine

/-! ## Runs -/

/-- RST is not the next move: the moves of which "until RST" speaks. -/
def noReset (s : State) : Prop := ∀ rest, s.env.events ≠ .rst :: rest

/-- The U3 turn is the next move, and `rest` are the moves after it (log 3). -/
def u3Next (s : State) (rest : List Event) : Prop :=
  s.env.events = .u3 :: rest ∨ (s.env.events = [] ∧ rest = [])

/-- A run to which the spec gives a meaning: no word was refused (10_state.md R41; 60_exceptions.md R268). -/
def meaningful (s : State) : Prop := s.refused = false

/-- The next move is a control word that decodes to nothing (30_encoding.md R73, R74; log 6). -/
def reservedNext (s : State) : Prop :=
  ∃ w rest e, s.env.events = .word w :: rest ∧ decodeCw w = .error e

/-- The state after `n` steps, if none of them stops. -/
def runFor : Nat → State → Option State
  | 0, s => some s
  | n + 1, s =>
    match step s with
    | .next s' => runFor n s'
    | .fault _ => none
    | .refused _ => none

/-- Every element of the table of 10_state.md R45 that has a reset value has it. -/
def atReset (s : State) : Prop :=
  s.crcH = 0xFFFF ∧ s.u3.crcS = 0xFFFF ∧ s.refused = false ∧ s.u3.tx = [] ∧
    (s.u2.hxState = .seek ∧ s.u2.line = [] ∧ s.u2.lineNo = 1 ∧ s.u2.recIndex = 0 ∧ s.u2.curOff = 0 ∧
      s.u2.cursor = 0 ∧ s.u2.cksumBad = 0 ∧ s.u2.hxCode = .noError ∧ s.u2.hxLine = 0 ∧ s.u2.hxRec = 0 ∧
      s.u2.hxVal = 0 ∧ s.u2.hxExp = 0 ∧ s.u2.hxObs = 0) ∧
    (s.u3.t = 0 ∧ s.u3.t0 = 0 ∧ s.u3.wStart = 0 ∧ s.u3.matchIdx = 0 ∧ s.u3.sesState = .idle ∧
      s.u3.sesStep = .stepNone ∧ s.u3.wPhase = .sleep ∧ s.u3.rxbuf = [] ∧ s.u3.sig = 0 ∧ s.u3.kind = none ∧
      s.u3.expKind = none ∧ s.u3.blockSize = 0 ∧ s.u3.blk = 0 ∧ s.u3.nblocks = 0) ∧
    (s.u3.sesCode = .noError ∧ s.u3.sesOp = .opNone ∧ s.u3.sesExp = 0 ∧ s.u3.sesObs = 0 ∧ s.u3.sesVal = 0 ∧
      s.u3.sesBlk = 0)

/-! ## Lines -/

/-- The byte of the two digits at an offset of a line: `hex2` (00_scope.md section 4). -/
def hexAt (chars : List Byte) (i : Nat) : Byte :=
  hexByte (chars.getD i 0) (chars.getD (i + 1) 0)

/-- The characters at these offsets, the upper one excluded, are there and are hex digits. -/
def digitsGood (chars : List Byte) (lo hi : Nat) : Prop :=
  ∀ j, lo ≤ j → j < hi → ∃ c, chars[j]? = some c ∧ (hexval c).isSome = true

/-- `c` at offset `i` is the first character from `lo` on that is no hex digit. -/
def firstBadDigit (chars : List Byte) (lo i : Nat) (c : Byte) : Prop :=
  lo ≤ i ∧ chars[i]? = some c ∧ hexval c = none ∧ digitsGood chars lo i

/-! ## Messages -/

/-- The step that sends a message, and the operation a failing Send of it records (42_session.md R165 to R176;
43_block_transfer.md R200 to R210). -/
def messageAt : Instr → Option (SesStep × SesOp)
  | .crcInit => none
  | .crcUpdate _ => none
  | .crcResult => none
  | .hexChar _ => none
  | .hexEnd => none
  | .sesStart => none
  | .recData _ _ _ => none
  | .recEof _ _ _ => none
  | .recExtAddr _ _ _ => none
  | .recUnsupported _ _ _ _ => none
  | .txResetFrame => some (.dReset, .resetFrame)
  | .txPing1 => some (.dPing1, .ping)
  | .txPing2 => some (.dPing2, .ping)
  | .txReadSig => some (.sigSend, .sig)
  | .txSetDev _ => some (.setdevSend, .setdev)
  | .txReadVer => some (.verSend, .ver)
  | .txReadBsize => some (.bsizeSend, .bsize)
  | .txEraseSize _ => some (.xsizeSend, .xsize)
  | .txErase => some (.eraseSend, .erase)
  | .txSetAddr => some (.addrSend, .setaddr)
  | .txBlock (.header _) => some (.blkHdr, .block)
  | .txBlock (.data _) => some (.blkData, .block)
  | .txBlock (.crc _) => some (.blkCrc, .block)
  | .txExit => some (.exitSend, .exit)
  | .rxIdent => none
  | .rxSigReply _ _ => none
  | .rxOk => none
  | .rxVerReply _ => none
  | .rxBsizeReply _ _ => none

/-- The block index a failing Send records: `blk` for a block part, else 0 (43_block_transfer.md R203 to R206). -/
def messageBlk (op : SesOp) (s : State) : Word32 :=
  if op = .block then s.u3.blk else 0

/-! ## U2's invariants -/

/-- The image cells at `0 .. cursor - 1`, and no others, are written, and they exist (10_state.md R29; 20_memory.md R52,
R55). -/
def imageInv (s : State) : Prop :=
  s.u2.image.map Prod.fst = List.range s.u2.cursor.toNat ∧
    s.u2.cursor.toNat ≤ s.par.imageCapacity.toNat

/-- The bounds of 41_hex_parser.md R143 and 10_state.md R28. -/
def boundsInv (s : State) : Prop :=
  s.u2.curOff.toNat ≤ 0xFFFF0 ∧ s.u2.curOff.toNat % 16 = 0 ∧ s.u2.cursor.toNat ≤ 0x1100EE

/-- The line buffer (10_state.md R26): never over LINE_MAX, empty in SEEK and DONE, from its `:` on while a line is
collected. -/
def lineInv (s : State) : Prop :=
  s.u2.line.length ≤ s.par.lineMax ∧
    (s.u2.hxState = .seek ∨ s.u2.hxState = .done → s.u2.line = []) ∧
    (s.u2.hxState = .collect → s.u2.line.head? = some 0x3A)

/-- U2's error register is clear until ERROR and names an error in it (R32). -/
def hexErrorInv (s : State) : Prop :=
  if s.u2.hxState = .error then s.u2.hxCode ≠ .noError
  else s.u2.hxCode = .noError ∧ s.u2.hxLine = 0 ∧ s.u2.hxRec = 0 ∧ s.u2.hxVal = 0 ∧ s.u2.hxExp = 0 ∧ s.u2.hxObs = 0

/-! ## U3's invariants -/

/-- U3's fail register is clear until FAILED and names an error in it (R40). -/
def sesErrorInv (s : State) : Prop :=
  if s.u3.sesState = .failed then s.u3.sesCode ≠ .noError
  else s.u3.sesCode = .noError ∧ s.u3.sesOp = .opNone ∧ s.u3.sesExp = 0 ∧ s.u3.sesObs = 0 ∧ s.u3.sesVal = 0 ∧
    s.u3.sesBlk = 0

/-- The step lies in its stage (the table of R36); END lies in COMPLETE or FAILED, and FAILED is always at END. -/
def stageInv (s : State) : Prop :=
  s.u3.sesState = stepStage s.u3.sesStep ∨ (s.u3.sesState = .failed ∧ s.u3.sesStep = .stepEnd)

/-- U3 has been started and has not failed. -/
def started (s : State) : Prop := s.u3.sesState ≠ .idle ∧ s.u3.sesState ≠ .failed

/-- The image is final from SES.START on (42_session.md R160; 20_memory.md R54). -/
def imageReadyInv (s : State) : Prop := started s → s.u2.hxState = .done

/-- The stages after SignatureExchange. -/
def identified (s : State) : Prop :=
  s.u3.sesState = .deviceConfigured ∨ s.u3.sesState = .flashCleared ∨ s.u3.sesState = .transferring ∨
    s.u3.sesState = .complete

/-- After SignatureExchange the kind is the one of the signature and the one that was expected, if any was
(42_session.md R170, R171; 70_reset_and_hazards.md R277). -/
def identityInv (s : State) : Prop :=
  identified s →
    s.u3.kind = sigKind s.par.sigTable s.u3.sig ∧ s.u3.kind ≠ none ∧
      (s.u3.expKind = none ∨ s.u3.expKind = s.u3.kind)

/-- The stages after DeviceConfigured. -/
def configured (s : State) : Prop :=
  s.u3.sesState = .flashCleared ∨ s.u3.sesState = .transferring ∨ s.u3.sesState = .complete

/-- The negotiated block size is at least 1 before any block is computed (10_state.md R39; 42_session.md R174). -/
def blockSizeInv (s : State) : Prop := configured s → s.u3.blockSize ≠ 0

/-- The kind needs the erase-size declaration (R175). -/
def kindNeedsErase (s : State) : Bool :=
  match s.u3.kind with
  | none => false
  | some k => needsEraseSize s.par k

/-- `'X'` is only for the kinds that need it (R175). -/
def eraseKindInv (s : State) : Prop :=
  s.u3.sesStep = .xsizeSend ∨ s.u3.sesStep = .xsizeWait → s.u3.sesState = .flashCleared → kindNeedsErase s = true

/-- The steps of one programming block. -/
def inBlock (s : State) : Prop :=
  s.u3.sesState = .transferring ∧
    (s.u3.sesStep = .blkHdr ∨ s.u3.sesStep = .blkData ∨ s.u3.sesStep = .blkCrc ∨ s.u3.sesStep = .blkWait)

/-- The block count is that of 43_block_transfer.md R201; `blk` is below it while a block is sent and reaches it when
the last one is acknowledged (R207, R209). -/
def blockInv (s : State) : Prop :=
  (inBlock s → s.u3.blk < s.u3.nblocks ∧ s.u3.nblocks.toNat = blockCount (totalBytes s) s.u3.blockSize.toNat) ∧
    (s.u3.sesState = .complete →
      s.u3.blk = s.u3.nblocks ∧ s.u3.nblocks.toNat = blockCount (totalBytes s) s.u3.blockSize.toNat)

/-- The matcher's index (10_state.md R34): 0 to 4, and below 4 while U3 still scans. -/
def matchInv (s : State) : Prop :=
  s.u3.matchIdx ≤ 4 ∧ (s.u3.sesState = .discovering → s.u3.matchIdx < 4)

/-- What a wait has collected is short of its reply (R37; 42_session.md R164). -/
def waitInv (s : State) : Prop :=
  ∀ w, waitOf s.par s.u3.sesStep = some w → s.u3.rxbuf.length < w.len

/-- The starts of the deadlines are not in the future (10_state.md R33). -/
def timeInv (s : State) : Prop := s.u3.t0 ≤ s.u3.t ∧ s.u3.wStart ≤ s.u3.t

/-- What every state of a session has (42_session.md R160 to R176; 43_block_transfer.md R200 to R210). -/
structure sessionInv (s : State) : Prop where
  stage : stageInv s
  imageReady : imageReadyInv s
  identity : identityInv s
  blockSize : blockSizeInv s
  eraseKind : eraseKindInv s
  block : blockInv s

/-! ## What U3 has sent (R211) -/

/-- `n` pings: 0x1B and 0xAA in turn, 0x1B first (R166). -/
def pings : Nat → List Byte
  | 0 => []
  | n + 1 => pings n ++ [if n % 2 = 0 then 0x1B else 0xAA]

/-- The image byte at an address below `total_bytes`, the padding from there on (43_block_transfer.md R202). Under
`imageInv` every address below `total_bytes` is written, so the default is never taken. -/
def imageByte (s : State) (a : Nat) : Byte :=
  if a < totalBytes s then (memRead? s.u2.image a).getD s.par.padByte else s.par.padByte

/-- The chunk of block `k` (R202). -/
def chunkOf (s : State) (k : Nat) : List Byte :=
  (List.range s.u3.blockSize.toNat).map fun i => imageByte s (k * s.u3.blockSize.toNat + i)

/-- The block header (R203). -/
def headerBytes (s : State) : List Byte := encode (.txBlock (.header s.u3.blockSize))

/-- The whole message of block `k`: header, chunk, CRC (30_encoding.md R82). -/
def blockMessage (s : State) (k : Nat) : List Byte :=
  headerBytes s ++ chunkOf s k ++ be16 (crcOf s.par (chunkOf s k))

/-- The messages of the blocks before `n`. -/
def blockMessages (s : State) (n : Nat) : List Byte :=
  (List.range n).flatMap (blockMessage s)

/-- The erase-size declaration (42_session.md R175). -/
def eraseSizeBytes (s : State) : List Byte := encode (.txEraseSize (BitVec.ofNat 24 (totalBytes s)))

/-- Sent when discovery ends after `p` pings. -/
def txDiscovered (p : Nat) : List Byte := resetFrame ++ pings p

/-- Sent when DeviceConfigured ends. -/
def txConfigured (s : State) (p : Nat) : List Byte :=
  txDiscovered p ++ [0x74] ++ [0x54, s.u3.sig] ++ [0x56] ++ [0x62]

/-- Sent when the erase command is due. -/
def txErasable (s : State) (p : Nat) : List Byte :=
  txConfigured s p ++ (if kindNeedsErase s = true then eraseSizeBytes s else [])

/-- Sent when the address is set. -/
def txAddressed (s : State) (p : Nat) : List Byte :=
  txErasable s p ++ [0x65] ++ [0x41, 0x00, 0x00]

/-- What U3 has sent when it stands at a step, after `p` pings (R211). -/
def txAtStep (s : State) (p : Nat) : SesStep → List Byte
  | .stepNone => []
  | .dReset => []
  | .dSettle => resetFrame
  | .dPing1 => txDiscovered p
  | .dGap1 => txDiscovered p
  | .dScan1 => txDiscovered p
  | .dPing2 => txDiscovered p
  | .dGap2 => txDiscovered p
  | .dScan2 => txDiscovered p
  | .sigSend => txDiscovered p
  | .sigWait => txDiscovered p ++ [0x74]
  | .setdevSend => txDiscovered p ++ [0x74]
  | .setdevWait => txDiscovered p ++ [0x74] ++ [0x54, s.u3.sig]
  | .verSend => txDiscovered p ++ [0x74] ++ [0x54, s.u3.sig]
  | .verWait => txDiscovered p ++ [0x74] ++ [0x54, s.u3.sig] ++ [0x56]
  | .bsizeSend => txDiscovered p ++ [0x74] ++ [0x54, s.u3.sig] ++ [0x56]
  | .bsizeWait => txConfigured s p
  | .xsizeSend => txConfigured s p
  | .xsizeWait => txConfigured s p ++ eraseSizeBytes s
  | .eraseSend => txErasable s p
  | .eraseWait => txErasable s p ++ [0x65]
  | .addrSend => txErasable s p ++ [0x65]
  | .addrWait => txAddressed s p
  | .blkHdr => txAddressed s p ++ blockMessages s s.u3.blk.toNat
  | .blkData => txAddressed s p ++ blockMessages s s.u3.blk.toNat ++ headerBytes s
  | .blkCrc => txAddressed s p ++ blockMessages s s.u3.blk.toNat ++ headerBytes s ++ chunkOf s s.u3.blk.toNat
  | .blkWait => txAddressed s p ++ blockMessages s (s.u3.blk.toNat + 1)
  | .exitSend => txAddressed s p ++ blockMessages s s.u3.nblocks.toNat
  | .stepEnd => txAddressed s p ++ blockMessages s s.u3.nblocks.toNat ++ [0x45]

/-- How many pings can have gone out at a step: they alternate, and a scan follows each (R166). -/
def pingsFit (p : Nat) : SesStep → Prop
  | .stepNone => p = 0
  | .dReset => p = 0
  | .dSettle => p = 0
  | .dPing1 => p % 2 = 0
  | .dGap1 => p % 2 = 1
  | .dScan1 => p % 2 = 1
  | .dPing2 => p % 2 = 1
  | .dGap2 => p % 2 = 0 ∧ 2 ≤ p
  | .dScan2 => p % 2 = 0 ∧ 2 ≤ p
  | _ => 1 ≤ p

/-- `tx` is what R211 says, as far as U3 has come; after a failure it says nothing. -/
def txInv (s : State) : Prop :=
  s.u3.sesState ≠ .failed → ∃ p, pingsFit p s.u3.sesStep ∧ s.u3.tx = txAtStep s p s.u3.sesStep

end Sys2Proof.Machine
end

