-- ==== Sys2Proof/Certificates/Slice0/Obligations.lean ====
section
/-! DEFINITION. The statements for the provers. OBLIGATIONS.json says of each which rules of spec/ it rests on. A
statement gives an instruction's whole next state as an update of the state before it: what the update does not name is
unchanged, every register, flag and byte of memory. -/

open Sys2Proof Sys2Proof.Machine

/-- For all parameters and every well-formed instruction of all four formats whose length the parameters admit (a
record's line has at least MIN_LINE_LEN characters, a version reply has V_RESP_LEN bytes), decode in the instruction's
own format reads back from encode exactly that instruction. (R71, R76, R79, R82, R84, R86) -/
def Obligations.DecodeOfEncode : Prop :=
  ∀ (par : Params) (i : Instr), i.wf = true → fitsParams par i = true → decode par (formatOf i) (encode i) = .ok i

/-- A control word decodes exactly when its op is CRC.UPDATE or HEX.CHAR, with any data, or one of the four operations
without an operand, with data 0x00; every other word is reserved. A word that decodes has its op and data as the
encoding of its instruction. That the encoding of a control word stands as two bytes, op first, is the model's choice
(log 22). (R71, R72, R73) -/
def Obligations.ControlWordsDecodeExactly : Prop :=
  ∀ w : Word16,
    ((∃ i, decodeCw w = .ok i) ↔
      (cwOp w = 0x02 ∨ cwOp w = 0x10 ∨
        ((cwOp w = 0x01 ∨ cwOp w = 0x03 ∨ cwOp w = 0x11 ∨ cwOp w = 0x20) ∧ cwData w = 0x00))) ∧
    ∀ i, decodeCw w = .ok i → encode i = [cwOp w, cwData w] ∧ formatOf i = .cw

/-- When the next move is a control word that does not decode, the step answers a next state in which refused is true
and every unit, the parameters and the rest of the environment are as before. That the step goes on after the mark is
the model's choice (log 6). (R74, R41) -/
def Obligations.ReservedWordRefused : Prop :=
  ∀ (s : State) (w : Word16) (rest : List Event) (e : CwError),
    s.env.events = .word w :: rest → decodeCw w = .error e →
      step s = .next { s with env := { s.env with events := rest }, refused := true }

/-- hexval gives 0 to 9 on '0' to '9', 10 to 15 on 'A' to 'F' and on 'a' to 'f', and nothing on every other character.
(R78) -/
def Obligations.HexDigitValues : Prop :=
  ∀ c : Byte,
    (hexval c).map BitVec.toNat =
      if 0x30 ≤ c.toNat ∧ c.toNat ≤ 0x39 then some (c.toNat - 0x30)
      else if 0x41 ≤ c.toNat ∧ c.toNat ≤ 0x46 then some (c.toNat - 0x41 + 10)
      else if 0x61 ≤ c.toNat ∧ c.toNat ≤ 0x66 then some (c.toNat - 0x61 + 10)
      else none

/-- The words CRC.UPDATE 0x31, HEX.CHAR ':' and SES.START, the line :00000001FF, the messages 58 00 00 0A and 42 00 04
46, and the replies 0D and 59 00 80 decode to the instructions they stand for. (R71, R76, R82, R84) -/
def Obligations.SampleWordsDecode : Prop :=
  decodeCw 0x0231 = .ok (.crcUpdate 0x31) ∧
  decodeCw 0x103A = .ok (.hexChar 0x3A) ∧
  decodeCw 0x2000 = .ok .sesStart ∧
  decode Config.params .hexLine [0x3A, 0x30, 0x30, 0x30, 0x30, 0x30, 0x30, 0x30, 0x31, 0x46, 0x46] =
    .ok (.recEof 0 [] 0xFF) ∧
  decode Config.params .tx [0x58, 0x00, 0x00, 0x0A] = .ok (.txEraseSize 10) ∧
  decode Config.params .tx [0x42, 0x00, 0x04, 0x46] = .ok (.txBlock (.header 4)) ∧
  decode Config.params (.rx .ok) [0x0D] = .ok .rxOk ∧
  decode Config.params (.rx .bsize) [0x59, 0x00, 0x80] = .ok (.rxBsizeReply 0x00 0x80)

/-- A line shorter than MIN_LINE_LEN is LINE_TOO_SHORT. Otherwise the first bad digit at offsets 1 to 8 is
BAD_HEX_DIGIT. With a good header, a length other than 11 + 2*BB is LENGTH_MISMATCH. With the right length, the first
bad digit from offset 9 on is BAD_HEX_DIGIT. Each records the values its rule gives, and the line and every other
element of U2 stay. (R126, R128, R129, R233, R234, R235) -/
def Obligations.LineErrorsInOrder : Prop :=
  ∀ (par : Params) (u : HexUnit),
    let n := u.line.length
    let bb := hexAt u.line 1
    (n < par.minLineLen →
      processLine par u = hexError .lineTooShort (BitVec.ofNat 8 n) (toU32 par.minLineLen) (toU32 n) u) ∧
    (par.minLineLen ≤ n →
      (∀ i c, i ≤ 8 → firstBadDigit u.line 1 i c → processLine par u = hexError .badHexDigit c 0 (toU32 i) u) ∧
      (digitsGood u.line 1 9 →
        (n ≠ 11 + 2 * bb.toNat →
          processLine par u = hexError .lengthMismatch bb (toU32 (11 + 2 * bb.toNat)) (toU32 n) u) ∧
        (n = 11 + 2 * bb.toNat →
          ∀ i c, firstBadDigit u.line 9 i c → processLine par u = hexError .badHexDigit c 0 (toU32 i) u)))

/-- A line that is long enough, has only hex digits from offset 1 on and has 11 + 2*BB characters decodes; its type,
address, payload bytes and checksum are the digit pairs at offsets 7, 3 and 5, 9 + 2i, and n - 2; the record is then
run by its type byte. (R127, R130, R131) -/
def Obligations.DecodedFields : Prop :=
  ∀ (par : Params) (u : HexUnit),
    par.minLineLen ≤ u.line.length → digitsGood u.line 1 u.line.length →
      u.line.length = 11 + 2 * (hexAt u.line 1).toNat →
        ∃ r, decodeLine par.minLineLen u.line = .ok r ∧
          r.tt = hexAt u.line 7 ∧ r.address = hexAt u.line 3 ++ hexAt u.line 5 ∧
          r.payload.length = (hexAt u.line 1).toNat ∧
          (∀ i, i < r.payload.length → r.payload[i]? = some (hexAt u.line (9 + 2 * i))) ∧
          r.cc = hexAt u.line (u.line.length - 2) ∧
          processLine par u =
            if r.tt = 0x00 then recordData par r.address r.payload r.cc u
            else if r.tt = 0x01 then recordEof par r.address r.payload r.cc u
            else if r.tt = 0x02 then recordExtAddr par r.address r.payload r.cc u
            else recordUnsupported par r.tt r.address r.payload r.cc u

/-- When the next move is a control word that decodes to an instruction, the step is exec of that instruction at the
same state with that one move taken from the schedule. (R59, R70, R71) -/
def Obligations.StepRunsControlWord : Prop :=
  ∀ (s : State) (w : Word16) (rest : List Event) (i : Instr),
    s.env.events = .word w :: rest → decodeCw w = .ok i →
      step s = exec i { s with env := { s.env with events := rest } }

/-- When U3 has the turn at a send step, the step is exec of that step's message: the signature stored, the image
size, the block size, the current chunk and its CRC are the operands. (R161, R162, R165, R166, R169, R172, R175, R200,
R203, R204, R206, R210) -/
def Obligations.StepSendsItsMessage : Prop :=
  ∀ (s : State) (rest : List Event), u3Next s rest →
    let s' := withEvents rest s
    (atStep .dReset s → step s = exec .txResetFrame s') ∧
    (atStep .dPing1 s → step s = exec .txPing1 s') ∧
    (atStep .dPing2 s → step s = exec .txPing2 s') ∧
    (atStep .sigSend s → step s = exec .txReadSig s') ∧
    (atStep .setdevSend s → step s = exec (.txSetDev s.u3.sig) s') ∧
    (atStep .verSend s → step s = exec .txReadVer s') ∧
    (atStep .bsizeSend s → step s = exec .txReadBsize s') ∧
    (atStep .xsizeSend s → step s = exec (.txEraseSize (BitVec.ofNat 24 (totalBytes s))) s') ∧
    (atStep .eraseSend s → step s = exec .txErase s') ∧
    (atStep .addrSend s → step s = exec .txSetAddr s') ∧
    (atStep .blkHdr s → step s = exec (.txBlock (.header s.u3.blockSize)) s') ∧
    (atStep .blkData s → ∀ bytes, chunk s s.u3.blk.toNat = .ok bytes → step s = exec (.txBlock (.data bytes)) s') ∧
    (atStep .blkCrc s →
      ∀ bytes, chunk s s.u3.blk.toNat = .ok bytes → step s = exec (.txBlock (.crc (crcOf s.par bytes))) s') ∧
    (atStep .exitSend s → step s = exec .txExit s')

/-- When a line is collected that decodes to a record, a step at HEX.CHAR CR is exec of the record's instruction; a
step at HEX.CHAR LF is the same with line_no counted up, unless the record raised an error (the reading of log 24).
(R122, R134, R231, R260) -/
def Obligations.StepRunsRecord : Prop :=
  ∀ (s : State) (rest : List Event) (r : HexRecord),
    s.u2.hxState = .collect → decodeLine s.par.minLineLen s.u2.line = .ok r →
      (s.env.events = .word 0x100D :: rest → step s = exec (recordInstr r) (withEvents rest s)) ∧
      (s.env.events = .word 0x100A :: rest →
        ∃ t, exec (recordInstr r) (withEvents rest s) = .next t ∧
          step s =
            .next (if t.u2.hxState = .error then t else { t with u2 := { t.u2 with lineNo := bump t.u2.lineNo } }))

/-- When U3 has the turn in the READ phase of a wait, and the bytes drawn fill the wait's reply and decode to an
instruction, the step is exec of it with those bytes in rxbuf. At a scan point whose bytes complete the match, the
step is exec of RX.IDENT. (R61, R84, R161, R164, R167) -/
def Obligations.StepRunsReply : Prop :=
  ∀ (s : State) (rest : List Event) (r : List Byte), u3Next s rest → (drawRead s).1 = .bytes r →
    (∀ w i, s.u3.sesState = stepStage s.u3.sesStep → s.u3.wPhase = .read → waitOf s.par s.u3.sesStep = some w →
      (s.u3.rxbuf ++ r).length = w.len → decodeRx s.par.vRespLen w.kind (s.u3.rxbuf ++ r) = .ok i →
        step s = exec i (withRx r (withEvents rest s))) ∧
    (atStep .dScan1 s ∨ atStep .dScan2 s → (scanBytes s.par.matchRetest s.u3.matchIdx r).2 = true →
      step s = exec .rxIdent (withScan r (withEvents rest s)))

/-- CRC.INIT (word 0x0100) sets crc_h to 0xFFFF, CRC.UPDATE b (op 0x02) sets it to CrcStep(crc_h, b), CRC.RESULT (word
0x0300) changes nothing and returns crc_h; nothing else of the state changes, port P0 shows crc_h. That wordResult is
where a word's result stands, and that it is none for every other instruction, is the model's choice (log 15). (R100,
R101, R102) -/
def Obligations.CrcWords : Prop :=
  ∀ (s : State) (b : Byte),
    decodeCw 0x0100 = .ok .crcInit ∧ decodeCw (0x02#8 ++ b) = .ok (.crcUpdate b) ∧ decodeCw 0x0300 = .ok .crcResult ∧
    exec .crcInit s = .next { s with crcH := 0xFFFF } ∧
    exec (.crcUpdate b) s = .next { s with crcH := crcStepWith s.par.crcPoly s.par.crcIters s.crcH b } ∧
    exec .crcResult s = .next s ∧
    readPort s .crcOut = .bits 16 s.crcH ∧ wordResult .crcResult s = some s.crcH ∧
    ∀ i, i ≠ .crcResult → wordResult i s = none

/-- For every polynomial, iteration count, accumulator and byte, crcStepWith XORs the byte into bits 15:8 and then
takes that many shift steps, each a left shift that XORs the polynomial when bit 15 was 1. (R103) -/
def Obligations.CrcStepIterates : Prop :=
  ∀ (poly : Word16) (n : Nat) (c : Word16) (b : Byte),
    crcStepWith poly n c b =
      (fun x : Word16 => if x.getLsbD 15 = true then (x <<< 1) ^^^ poly else x <<< 1)^[n]
        (c ^^^ (b.setWidth 16 <<< 8))

/-- CrcOf of no byte is 0xFFFF, and CrcOf(bs ++ [b]) is CrcStep(CrcOf(bs), b). (R104) -/
def Obligations.CrcOfAppends : Prop :=
  ∀ (par : Params) (bytes : List Byte) (b : Byte),
    crcOf par [] = 0xFFFF ∧ crcOf par (bytes ++ [b]) = crcStep par (crcOf par bytes) b

/-- With CRC_ITERS = 16, CrcStep equals Step8 of the byte and then of 0x00, so CrcOf over bytes is the 8-iteration CRC
over the bytes with a zero after each; under polynomial 0x1021 the two differ on "123456789": 0x4D64 and 0x29B1.
(R105) -/
def Obligations.CrcSixteenIsTwoEights : Prop :=
  (∀ (poly c : Word16) (b : Byte), crcStepWith poly 16 c b = crcStepWith poly 8 (crcStepWith poly 8 c b) 0x00) ∧
  ∀ par16 par8 : Params, par16.crcIters = 16 → par8.crcIters = 8 → par16.crcPoly = par8.crcPoly →
    (∀ bytes, crcOf par16 bytes = crcOf par8 (bytes.flatMap fun b => [b, 0x00])) ∧
    (par16.crcPoly = 0x1021 →
      crcOf par16 [0x31, 0x32, 0x33, 0x34, 0x35, 0x36, 0x37, 0x38, 0x39] = 0x4D64 ∧
      crcOf par8 [0x31, 0x32, 0x33, 0x34, 0x35, 0x36, 0x37, 0x38, 0x39] = 0x29B1)

/-- For every polynomial and iteration count, CrcStep of an XOR of accumulators and an XOR of bytes is the XOR of the
two CrcSteps, and CrcStep(0, 0) = 0. With polynomial 0x0000 and 16 iterations CrcStep is 0x0000 for every accumulator
and byte. (R107, R108) -/
def Obligations.CrcStepAlgebra : Prop :=
  (∀ (poly : Word16) (n : Nat) (c1 c2 : Word16) (b1 b2 : Byte),
    crcStepWith poly n (c1 ^^^ c2) (b1 ^^^ b2) = crcStepWith poly n c1 b1 ^^^ crcStepWith poly n c2 b2) ∧
  (∀ (poly : Word16) (n : Nat), crcStepWith poly n 0 0 = 0) ∧
  ∀ (c : Word16) (b : Byte), crcStepWith 0 16 c b = 0

/-- In SEEK ':' counts a record, starts the line and enters COLLECT, LF counts a line, and anything else is discarded.
In COLLECT a character that is not CR or LF is appended, or is LINE_TOO_LONG when the line already has LINE_MAX
characters. Nothing else changes. A counter below 2^32 - 1 counts one up. (R120, R121, R236) -/
def Obligations.HexCharStores : Prop :=
  (∀ x : Word32, x.toNat + 1 < 2 ^ 32 → bump x = x + 1) ∧
  ∀ (s : State) (c : Byte),
    (s.u2.hxState = .seek →
      exec (.hexChar c) s =
        .next
          (if c = 0x3A then
            { s with u2 := { s.u2 with recIndex := bump s.u2.recIndex, line := [0x3A], hxState := .collect } }
          else if c = 0x0A then { s with u2 := { s.u2 with lineNo := bump s.u2.lineNo } }
          else s)) ∧
    (s.u2.hxState = .collect → c ≠ 0x0D → c ≠ 0x0A →
      exec (.hexChar c) s =
        .next
          (if s.par.lineMax ≤ s.u2.line.length then
            { s with u2 := hexError .lineTooLong c (toU32 s.par.lineMax) (toU32 (s.par.lineMax + 1)) s.u2 }
          else { s with u2 := { s.u2 with line := s.u2.line ++ [c] } }))

/-- In COLLECT, HEX.CHAR CR changes U2 to what ProcessLine makes of it; HEX.CHAR LF does the same and then counts the
line, unless ProcessLine raised an error (the reading of log 24). Nothing outside U2 changes. (R122, R231, R260) -/
def Obligations.HexCharEndsLine : Prop :=
  ∀ s : State, s.u2.hxState = .collect →
    let u := processLine s.par s.u2
    exec (.hexChar 0x0D) s = .next { s with u2 := u } ∧
    exec (.hexChar 0x0A) s =
      .next { s with u2 := if u.hxState = .error then u else { u with lineNo := bump u.lineNo } }

/-- In DONE and in ERROR, HEX.CHAR of every character and HEX.END answer the same state. (R123) -/
def Obligations.HexFinalStatesIgnoreInput : Prop :=
  ∀ (s : State) (c : Byte), s.u2.hxState = .done ∨ s.u2.hxState = .error →
    exec (.hexChar c) s = .next s ∧ exec .hexEnd s = .next s

/-- In SEEK, HEX.END is MISSING_EOF. In COLLECT it processes the line, and is MISSING_EOF unless that ended in DONE or
ERROR. After HEX.END, U2 is in DONE or ERROR, whatever it was in. Nothing outside U2 changes. (R124, R242) -/
def Obligations.HexEndDecides : Prop :=
  ∀ s : State,
    (s.u2.hxState = .seek → exec .hexEnd s = .next { s with u2 := hexError .missingEof 0 0 0 s.u2 }) ∧
    (s.u2.hxState = .collect →
      let u := processLine s.par s.u2
      exec .hexEnd s =
        .next
          { s with
            u2 := if u.hxState = .done ∨ u.hxState = .error then u else hexError .missingEof 0 0 0 u }) ∧
    ∃ t, exec .hexEnd s = .next t ∧ (t.u2.hxState = .done ∨ t.u2.hxState = .error)

/-- At a collected line, a Data record whose checksum is not a strict error is NON_CONTIGUOUS_DATA off the cursor,
IMAGE_OVERFLOW past the capacity, and otherwise completes: payload byte i is read at cursor + i, every other address
reads as before, the cursor moves past the payload, U2 returns to SEEK, and nothing else changes but the cleared line
and the count of bad checksums. (R53, R136, R238, R245) -/
def Obligations.DataRecordBuildsImage : Prop :=
  ∀ (s : State) (address : Word16) (payload : List Byte) (cc : Byte), s.u2.hxState = .collect →
    (recordSum 0x00 address payload cc = 0 ∨ s.par.strictChecksum = false) →
      let abs := s.u2.curOff.toNat + address.toNat
      let next := s.u2.cursor.toNat + payload.length
      let u : HexUnit :=
        { s.u2 with
          line := [],
          cksumBad := if recordSum 0x00 address payload cc = 0 then s.u2.cksumBad else bump s.u2.cksumBad }
      (abs ≠ s.u2.cursor.toNat →
        exec (.recData address payload cc) s =
          .next
            { s with
              u2 := hexError .nonContiguousData (BitVec.ofNat 8 payload.length) s.u2.cursor (toU32 abs) u }) ∧
      (abs = s.u2.cursor.toNat → s.par.imageCapacity.toNat < next →
        exec (.recData address payload cc) s =
          .next
            { s with
              u2 :=
                hexError .imageOverflow (BitVec.ofNat 8 payload.length) s.par.imageCapacity (toU32 next) u }) ∧
      (abs = s.u2.cursor.toNat → next ≤ s.par.imageCapacity.toNat →
        ∃ image,
          exec (.recData address payload cc) s =
            .next { s with u2 := { u with hxState := .seek, image := image, cursor := BitVec.ofNat 32 next } } ∧
          (∀ i, i < payload.length → memRead? image (s.u2.cursor.toNat + i) = payload[i]?) ∧
          ∀ a, (a < s.u2.cursor.toNat ∨ next ≤ a) → memRead? image a = memRead? s.u2.image a)

/-- The offset of two payload bytes is p0 * 4096 + p1 * 16, at most 0xFFFF0. At a collected line, an ExtendedAddress
record whose checksum is not a strict error is BAD_EXT_ADDR with fewer than two payload bytes, NON_CONTIGUOUS_SEGMENT
when the offset is not the cursor, and otherwise sets cur_off to it and returns U2 to SEEK; address and further
payload bytes are ignored, and the image is unchanged in every case. (R81, R239, R244) -/
def Obligations.ExtAddrRecordSetsBase : Prop :=
  (∀ p0 p1 : Byte,
    (extOffset p0 p1).toNat = p0.toNat * 4096 + p1.toNat * 16 ∧ (extOffset p0 p1).toNat ≤ 0xFFFF0 ∧
      extOffset p0 p1 = (p0 ++ p1).setWidth 32 <<< 4) ∧
  ∀ (s : State) (address : Word16) (payload : List Byte) (cc : Byte), s.u2.hxState = .collect →
    (recordSum 0x02 address payload cc = 0 ∨ s.par.strictChecksum = false) →
      let u : HexUnit :=
        { s.u2 with
          line := [],
          cksumBad := if recordSum 0x02 address payload cc = 0 then s.u2.cksumBad else bump s.u2.cksumBad }
      (payload.length < 2 →
        exec (.recExtAddr address payload cc) s =
          .next
            { s with
              u2 :=
                hexError .badExtAddr (BitVec.ofNat 8 payload.length) 2 (BitVec.ofNat 32 payload.length) u }) ∧
      ∀ p0 p1 more, payload = p0 :: p1 :: more →
        (extOffset p0 p1 ≠ s.u2.cursor →
          exec (.recExtAddr address payload cc) s =
            .next { s with u2 := hexError .nonContiguousSegment p0 s.u2.cursor (extOffset p0 p1) u }) ∧
        (extOffset p0 p1 = s.u2.cursor →
          exec (.recExtAddr address payload cc) s =
            .next { s with u2 := { u with hxState := .seek, curOff := extOffset p0 p1 } })

/-- At a collected line, an EndOfFile record whose checksum is not a strict error, over an image of as many cells as
the cursor says, is EMPTY_IMAGE with cursor 0 where empty images are not allowed, and otherwise puts U2 in DONE with
total_bytes = cursor; its address and payload are ignored and every image cell reads as before. (R140, R243) -/
def Obligations.EofRecordFinishesImage : Prop :=
  ∀ (s : State) (address : Word16) (payload : List Byte) (cc : Byte), s.u2.hxState = .collect →
    (recordSum 0x01 address payload cc = 0 ∨ s.par.strictChecksum = false) →
      s.u2.image.length = s.u2.cursor.toNat →
        let u : HexUnit :=
          { s.u2 with
            line := [],
            cksumBad := if recordSum 0x01 address payload cc = 0 then s.u2.cksumBad else bump s.u2.cksumBad }
        (s.u2.cursor = 0 → s.par.allowEmptyImage = false →
          exec (.recEof address payload cc) s = .next { s with u2 := hexError .emptyImage 0 1 0 u }) ∧
        (s.u2.cursor ≠ 0 ∨ s.par.allowEmptyImage = true →
          exec (.recEof address payload cc) s = .next { s with u2 := { u with hxState := .done } } ∧
            totalBytes { s with u2 := { u with hxState := .done } } = s.u2.cursor.toNat)

/-- At a collected line, a record of any type from 0x03 on whose checksum is not a strict error puts U2 in ERROR with
UNSUPPORTED_RECORD and the type byte; image, cursor and base are unchanged. (R240) -/
def Obligations.UnsupportedRecordFails : Prop :=
  ∀ (s : State) (tt : Byte) (address : Word16) (payload : List Byte) (cc : Byte), s.u2.hxState = .collect →
    3 ≤ tt.toNat → (recordSum tt address payload cc = 0 ∨ s.par.strictChecksum = false) →
      exec (.recUnsupported tt address payload cc) s =
        .next
          { s with
            u2 :=
              hexError .unsupportedRecord tt 0 0
                { s.u2 with
                  line := [],
                  cksumBad :=
                    if recordSum tt address payload cc = 0 then s.u2.cksumBad else bump s.u2.cksumBad } }

/-- At a collected line, a record of any type whose byte sum is not 0 is CHECKSUM_MISMATCH when STRICT_CHECKSUM, with
the checksum that would make the sum 0 as expected value and nothing else of U2 changed; without STRICT_CHECKSUM it
completes as a step and cksum_bad counts one up. (R133, R237) -/
def Obligations.ChecksumPolicy : Prop :=
  ∀ (s : State) (r : HexRecord), s.u2.hxState = .collect →
    let sum := recordSum r.tt r.address r.payload r.cc
    sum ≠ 0 →
      recordSum r.tt r.address r.payload (r.cc - sum) = 0 ∧
      (s.par.strictChecksum = true →
        exec (recordInstr r) s =
          .next
            { s with
              u2 := hexError .checksumMismatch r.cc ((r.cc - sum).setWidth 32) (r.cc.setWidth 32) s.u2 }) ∧
      (s.par.strictChecksum = false →
        ∃ t, exec (recordInstr r) s = .next t ∧ t.u2.cksumBad = bump s.u2.cksumBad ∧
          (t.u2.hxCode = .checksumMismatch → s.u2.hxCode = .checksumMismatch))

/-- HexError writes code, current line number and record index, value, expected and observed into U2's error register
and enters ERROR. Fail writes code, operation, expected, observed, value and block into U3's, enters FAILED at END,
and sets w_phase to SLEEP. Every other element keeps its value. (R230, R231) -/
def Obligations.ErrorEntries : Prop :=
  (∀ (code : HexCode) (val : Byte) (exp obs : Word32) (u : HexUnit),
    hexError code val exp obs u =
      { u with
        hxCode := code, hxLine := u.lineNo, hxRec := u.recIndex, hxVal := val, hxExp := exp, hxObs := obs,
        hxState := .error }) ∧
  ∀ (code : SesCode) (op : SesOp) (exp obs : Word32) (val : Byte) (blk : Word32) (s : State),
    sesFail code op exp obs val blk s =
      { s with
        u3 :=
          { s.u3 with
            sesCode := code, sesOp := op, sesExp := exp, sesObs := obs, sesVal := val, sesBlk := blk,
            sesState := .failed, sesStep := .stepEnd, wPhase := .sleep } }

/-- In IDLE over a DONE image, START latches EXPECTED_KIND, clears the match index and enters DISCOVERING at D_RESET.
In IDLE otherwise it fails with NO_IMAGE and the code of hx_state. In every other state it changes nothing. From IDLE,
a step whose next move is not the word 0x2000 stays in IDLE, and unless it is RST it keeps all of U3. How the code
fills the 8 bits of ses_val is the model's deduction (log 28), and where EXPECTED_KIND stands before it is latched is
its choice (log 18). (R160, R255) -/
def Obligations.SesStartCases : Prop :=
  ∀ s : State,
    (s.u3.sesState = .idle → s.u2.hxState = .done →
      exec .sesStart s =
        .next
          { s with
            u3 :=
              { s.u3 with
                expKind := s.env.expectedKind, matchIdx := 0, sesState := .discovering, sesStep := .dReset } }) ∧
    (s.u3.sesState = .idle → s.u2.hxState ≠ .done →
      exec .sesStart s =
        .next (sesFail .noImage .start 0 0 ((hexStateCode s.u2.hxState).setWidth 8) 0 s)) ∧
    (s.u3.sesState ≠ .idle → exec .sesStart s = .next s) ∧
    ∀ t, s.u3.sesState = .idle → step s = .next t → (∀ rest, s.env.events ≠ .word 0x2000 :: rest) →
      t.u3.sesState = .idle ∧ (noReset s → t.u3 = s.u3)

/-- At its step, with the Send drawing OK, each of RESET_FRAME, PING1, PING2, the block header, the block data and
EXIT appends its bytes to tx and moves to the step its rule names; nothing else changes but the environment's record
of draws, so every image address reads as before. (R82, R165, R166, R203, R204, R210) -/
def Obligations.UnansweredMessages : Prop :=
  ∀ s : State, (drawSend s).1 = .ok →
    let env := (drawSend s).2.env
    (atStep .dReset s →
      exec .txResetFrame s =
        .next
          { s with
            env := env
            u3 :=
              { s.u3 with
                tx := s.u3.tx ++ [0x23, 0x61, 0x52, 0x40, 0x53, 0x0D, 0x0D, 0x0D], sesStep := .dSettle } }) ∧
    (atStep .dPing1 s →
      exec .txPing1 s =
        .next { s with env := env, u3 := { s.u3 with tx := s.u3.tx ++ [0x1B], sesStep := .dGap1 } }) ∧
    (atStep .dPing2 s →
      exec .txPing2 s =
        .next { s with env := env, u3 := { s.u3 with tx := s.u3.tx ++ [0xAA], sesStep := .dGap2 } }) ∧
    (atStep .blkHdr s →
      ∀ hi lo : Byte,
        exec (.txBlock (.header (hi ++ lo))) s =
          .next
            { s with env := env, u3 := { s.u3 with tx := s.u3.tx ++ [0x42, hi, lo, 0x46], sesStep := .blkData } }) ∧
    (atStep .blkData s →
      ∀ bytes : List Byte,
        exec (.txBlock (.data bytes)) s =
          .next { s with env := env, u3 := { s.u3 with tx := s.u3.tx ++ bytes, sesStep := .blkCrc } }) ∧
    (atStep .exitSend s →
      exec .txExit s =
        .next { s with env := env, u3 := { s.u3 with tx := s.u3.tx ++ [0x45], sesStep := .stepEnd } })

/-- At its step, with the Send drawing OK, each of READ_SIG, SET_DEV, READ_VER, READ_BSIZE, ERASE_SIZE (for at most
0xFFFFFF bytes), ERASE and SET_ADDR appends its bytes to tx, clears rxbuf, sets w_start to the time and w_phase to
SLEEP, and moves to its wait; nothing else changes but the record of draws. With more than 0xFFFFFF bytes ERASE_SIZE
fails and sends nothing. (R82, R164, R169, R172, R173, R174, R175, R176, R200, R254) -/
def Obligations.AnsweredMessages : Prop :=
  ∀ s : State,
    let sent : List Byte → SesStep → State := fun m wait =>
      { s with
        env := (drawSend s).2.env
        u3 :=
          { s.u3 with
            tx := s.u3.tx ++ m, rxbuf := [], wStart := s.u3.t, wPhase := .sleep, sesStep := wait } }
    (atStep .xsizeSend s → 0xFFFFFF < totalBytes s →
      ∀ size,
        exec (.txEraseSize size) s =
          .next (sesFail .eraseSizeRange .xsize 0xFFFFFF (toU32 (totalBytes s)) 0 0 s)) ∧
    ((drawSend s).1 = .ok →
      (atStep .sigSend s → exec .txReadSig s = .next (sent [0x74] .sigWait)) ∧
      (atStep .setdevSend s → ∀ sig, exec (.txSetDev sig) s = .next (sent [0x54, sig] .setdevWait)) ∧
      (atStep .verSend s → exec .txReadVer s = .next (sent [0x56] .verWait)) ∧
      (atStep .bsizeSend s → exec .txReadBsize s = .next (sent [0x62] .bsizeWait)) ∧
      (atStep .xsizeSend s → totalBytes s ≤ 0xFFFFFF →
        ∀ b2 b1 b0 : Byte,
          exec (.txEraseSize (b2 ++ b1 ++ b0)) s = .next (sent [0x58, b2, b1, b0] .xsizeWait)) ∧
      (atStep .eraseSend s → exec .txErase s = .next (sent [0x65] .eraseWait)) ∧
      (atStep .addrSend s → exec .txSetAddr s = .next (sent [0x41, 0x00, 0x00] .addrWait)))

/-- At BLK_CRC, where the current chunk can be read and the Send draws OK, the CRC part sets crc_s to CrcOf of the
chunk, appends the CRC's high and low byte to tx, starts the wait and moves to BLK_WAIT; nothing else changes but the
record of draws. The CRC that U3's step sends is the one stored in crc_s. (R205, R206) -/
def Obligations.BlockCrcMessage : Prop :=
  ∀ (s : State) (bytes : List Byte) (hi lo : Byte), atStep .blkCrc s → (drawSend s).1 = .ok →
    chunk s s.u3.blk.toNat = .ok bytes →
      exec (.txBlock (.crc (hi ++ lo))) s =
        .next
          { s with
            env := (drawSend s).2.env
            u3 :=
              { s.u3 with
                crcS := crcOf s.par bytes, tx := s.u3.tx ++ [hi, lo], rxbuf := [], wStart := s.u3.t,
                wPhase := .sleep, sesStep := .blkWait } } ∧
      u3Fetch s = .ok (.send (.txBlock (.crc (crcOf s.par bytes))))

/-- For every message at its step, with IOError(p) drawn and p less than the message's length, the step answers FAILED
with IO_FAILURE, the message's operation, its length, p, and for a block part the block index; the first p bytes are
in tx, and nothing else changes but the record of draws and, at BLK_CRC, crc_s, which is already the CRC of the
current chunk. (R60, R205, R256, R260) -/
def Obligations.SendFailure : Prop :=
  ∀ (s : State) (i : Instr) (p : Nat) (at_ : SesStep) (op : SesOp), messageAt i = some (at_, op) → atStep at_ s →
    (drawSend s).1 = .ioError p → p < (encode i).length →
      (at_ = .xsizeSend → totalBytes s ≤ 0xFFFFFF) → (at_ = .blkCrc → ∃ bytes, chunk s s.u3.blk.toNat = .ok bytes) →
        ∃ crc,
          (at_ ≠ .blkCrc → crc = s.u3.crcS) ∧
          (at_ = .blkCrc → ∀ bytes, chunk s s.u3.blk.toNat = .ok bytes → crc = crcOf s.par bytes) ∧
          exec i s =
            .next
              { s with
                env := (drawSend s).2.env
                u3 :=
                  { s.u3 with
                    crcS := crc, tx := s.u3.tx ++ (encode i).take p, sesCode := .ioFailure, sesOp := op,
                    sesExp := toU32 (encode i).length, sesObs := toU32 p, sesVal := 0, sesBlk := messageBlk op s,
                    sesState := .failed, sesStep := .stepEnd, wPhase := .sleep } }

/-- At a scan point RX.IDENT enters SIGNATURE_EXCHANGE with match index 4; at the waits of 'T', 'X' and 'e' RX.OK
moves to VER_SEND, ERASE_SEND and TRANSFERRING at ADDR_SEND; at the wait of 'V' RX.VER_REPLY of any content moves to
BSIZE_SEND. Nothing else changes. (R163, R166, R167, R172, R173, R175, R176) -/
def Obligations.AdvancingReplies : Prop :=
  ∀ s : State,
    (atStep .dScan1 s ∨ atStep .dScan2 s →
      exec .rxIdent s =
        .next
          { s with u3 := { s.u3 with matchIdx := 4, sesState := .signatureExchange, sesStep := .sigSend } }) ∧
    (atRead .setdevWait s → exec .rxOk s = .next { s with u3 := { s.u3 with sesStep := .verSend } }) ∧
    (atRead .xsizeWait s → exec .rxOk s = .next { s with u3 := { s.u3 with sesStep := .eraseSend } }) ∧
    (atRead .eraseWait s →
      exec .rxOk s = .next { s with u3 := { s.u3 with sesState := .transferring, sesStep := .addrSend } }) ∧
    (atRead .verWait s →
      ∀ content, exec (.rxVerReply content) s = .next { s with u3 := { s.u3 with sesStep := .bsizeSend } })

/-- At the 't' wait, a signature without an entry of SIG_TABLE is UNKNOWN_SIGNATURE; one whose kind differs from an
expected kind is IDENTITY_MISMATCH; otherwise U3 enters DEVICE_CONFIGURED at SETDEV_SEND. sig and kind are written in
every case; nothing else changes, for every second byte. (R170, R171, R250, R251) -/
def Obligations.SignatureReply : Prop :=
  ∀ (s : State) (s0 s1 : Byte), atRead .sigWait s →
    let u : SesUnit := { s.u3 with sig := s0, kind := sigKind s.par.sigTable s0 }
    (sigKind s.par.sigTable s0 = none →
      exec (.rxSigReply s0 s1) s = .next (sesFail .unknownSignature .sig 2 2 s0 0 { s with u3 := u })) ∧
    ∀ k, sigKind s.par.sigTable s0 = some k →
      (s.u3.expKind ≠ none → s.u3.expKind ≠ some k →
        exec (.rxSigReply s0 s1) s = .next (sesFail .identityMismatch .sig 0 0 s0 0 { s with u3 := u })) ∧
      (s.u3.expKind = none ∨ s.u3.expKind = some k →
        exec (.rxSigReply s0 s1) s =
          .next { s with u3 := { u with sesState := .deviceConfigured, sesStep := .setdevSend } })

/-- With a block size of at least 1, the acknowledgement of 'A' sets nblocks to ceil(total_bytes / block_size) and blk
to 0, and moves to BLK_HDR, or to COMPLETE at EXIT_SEND when there is no block; nothing else changes. The count covers
the image, and within the bounds of the image it is at most 0x1100EE and the padded length at most 0x1200EC. (R200,
R201, R209) -/
def Obligations.AddressAcknowledged : Prop :=
  ∀ s : State, atRead .addrWait s → s.u3.blockSize ≠ 0 →
    let n := (totalBytes s + s.u3.blockSize.toNat - 1) / s.u3.blockSize.toNat
    exec .rxOk s =
      .next
        { s with
          u3 :=
            { s.u3 with
              nblocks := BitVec.ofNat 32 n, blk := 0,
              sesState := if 0 < n then .transferring else .complete,
              sesStep := if 0 < n then .blkHdr else .exitSend } } ∧
    n < 2 ^ 32 ∧ totalBytes s ≤ n * s.u3.blockSize.toNat ∧ n * s.u3.blockSize.toNat < totalBytes s + s.u3.blockSize.toNat ∧
    (totalBytes s ≤ 0x1100EE → n ≤ 0x1100EE ∧ n * s.u3.blockSize.toNat ≤ 0x1200EC)

/-- At BLK_WAIT of a block below nblocks, the acknowledgement counts blk one up and moves to BLK_HDR, or to COMPLETE
at EXIT_SEND after the last block; nothing else changes. (R207, R209) -/
def Obligations.BlockAcknowledged : Prop :=
  ∀ s : State, atRead .blkWait s → s.u3.blk < s.u3.nblocks →
    (s.u3.blk.toNat + 1 < s.u3.nblocks.toNat →
      exec .rxOk s = .next { s with u3 := { s.u3 with blk := s.u3.blk + 1, sesStep := .blkHdr } }) ∧
    (s.u3.blk.toNat + 1 = s.u3.nblocks.toNat →
      exec .rxOk s =
        .next { s with u3 := { s.u3 with blk := s.u3.blk + 1, sesState := .complete, sesStep := .exitSend } })

/-- At the 'b' wait, size 0 is ZERO_BLOCK_SIZE and block_size stays; any other size, high byte first, is stored and U3
enters FLASH_CLEARED, at XSIZE_SEND for a kind that needs the erase size and at ERASE_SEND for any other; nothing else
changes. (R174, R253) -/
def Obligations.BlockSizeReply : Prop :=
  ∀ (s : State) (hi lo : Byte), atRead .bsizeWait s →
    (hi = 0 → lo = 0 → exec (.rxBsizeReply hi lo) s = .next (sesFail .zeroBlockSize .bsize 3 3 0x00 0 s)) ∧
    ∀ k, s.u3.kind = some k → hi ≠ 0 ∨ lo ≠ 0 →
      exec (.rxBsizeReply hi lo) s =
        .next
          { s with
            u3 :=
              { s.u3 with
                blockSize := hi ++ lo, sesState := .flashCleared,
                sesStep := if k ∈ s.par.eraseKinds then .xsizeSend else .eraseSend } }

/-- The eight waits have the lengths, time limits and operations of their rules. When U3 has the turn in the READ
phase of one, the step is IO_FAILURE on an IOError; else RESPONSE_TOO_LONG over the length; else NOT_OK or BAD_MARKER
on a reply of the right length that the check rejects; else, short of the length, RESPONSE_TIMEOUT at or past the
limit; else the SLEEP phase again. Each failure records what its rule gives, a block's also the block index, and the
bytes read are in rxbuf. R163, R252, R256 and R258 say the same of the acknowledgement, the marker, the IOError and
the order of the checks. (R164, R169, R172, R173, R174, R175, R176, R200, R207, R247, R248, R249) -/
def Obligations.WaitReadOutcomes : Prop :=
  (∀ par : Params,
    waitOf par .sigWait = some ⟨2, par.tResp, .sig, .sig⟩ ∧
    waitOf par .setdevWait = some ⟨1, par.tResp, .setdev, .ok⟩ ∧
    waitOf par .verWait = some ⟨par.vRespLen, par.tResp, .ver, .ver⟩ ∧
    waitOf par .bsizeWait = some ⟨3, par.tResp, .bsize, .bsize⟩ ∧
    waitOf par .xsizeWait = some ⟨1, par.tErase, .xsize, .ok⟩ ∧
    waitOf par .eraseWait = some ⟨1, par.tErase, .erase, .ok⟩ ∧
    waitOf par .addrWait = some ⟨1, par.tResp, .setaddr, .ok⟩ ∧
    waitOf par .blkWait = some ⟨1, par.tResp, .block, .ok⟩) ∧
  ∀ (s : State) (rest : List Event) (w : WaitSpec), u3Next s rest → s.u3.sesState = stepStage s.u3.sesStep →
    s.u3.wPhase = .read → waitOf s.par s.u3.sesStep = some w →
      let s' := withEvents rest s
      ((drawRead s).1 = .ioError →
        step s =
          .next
            (sesFail .ioFailure w.op (toU32 w.len) (toU32 s.u3.rxbuf.length) 0 (waitBlk s) (drawRead s').2)) ∧
      ∀ r, (drawRead s).1 = .bytes r →
        let buf := s.u3.rxbuf ++ r
        (w.len < buf.length →
          step s =
            .next
              (sesFail .responseTooLong w.op (toU32 w.len) (toU32 buf.length) 0 (waitBlk s) (withRx r s'))) ∧
        (w.kind = .ok → ∀ b, buf = [b] → b ≠ 0x0D →
          step s = .next (sesFail .notOk w.op 1 1 b (waitBlk s) (withRx r s'))) ∧
        (w.kind = .bsize → ∀ m hi lo, buf = [m, hi, lo] → m ≠ 0x59 →
          step s = .next (sesFail .badMarker w.op 3 3 m 0 (withRx r s'))) ∧
        (buf.length < w.len → s.u3.wStart + w.timeout ≤ s.u3.t →
          step s =
            .next
              (sesFail .responseTimeout w.op (toU32 w.len) (toU32 buf.length) 0 (waitBlk s) (withRx r s'))) ∧
        (buf.length < w.len → s.u3.t < s.u3.wStart + w.timeout →
          step s =
            .next { withRx r s' with u3 := { (withRx r s').u3 with wPhase := .sleep } })

/-- When U3 has the turn at a Sleep step, the step adds the rule's duration and the drawn jitter to the time and goes
on to the next step; the settle delay also starts the discovery deadline. Nothing else changes but the record of
draws. (R62, R164, R165, R166) -/
def Obligations.SleepSteps : Prop :=
  ∀ (s : State) (rest : List Event), u3Next s rest →
    let s' := withEvents rest s
    let j := (drawJitter s).1
    let env := (drawJitter s').2.env
    (atStep .dSettle s →
      step s =
        .next
          { s' with
            env := env
            u3 :=
              { s.u3 with t := s.u3.t + s.par.tSettle + j, t0 := s.u3.t + s.par.tSettle + j, sesStep := .dPing1 } }) ∧
    (atStep .dGap1 s →
      step s =
        .next { s' with env := env, u3 := { s.u3 with t := s.u3.t + s.par.tPing1 + j, sesStep := .dScan1 } }) ∧
    (atStep .dGap2 s →
      step s =
        .next { s' with env := env, u3 := { s.u3 with t := s.u3.t + s.par.tPing2 + j, sesStep := .dScan2 } }) ∧
    ∀ w, waitOf s.par s.u3.sesStep = some w → s.u3.sesState = stepStage s.u3.sesStep → s.u3.wPhase = .sleep →
      step s = .next { s' with env := env, u3 := { s.u3 with t := s.u3.t + s.par.tPoll + j, wPhase := .read } }

/-- When U3 has the turn at a scan point, the step is IO_FAILURE on an IOError; a match enters SIGNATURE_EXCHANGE even
past the deadline; without a match it is DISCOVERY_TIMEOUT at or past the deadline, and else the loop goes on with the
other ping. The match index is carried on. Nothing else changes but the record of draws. (R61, R166, R168, R246, R256) -/
def Obligations.ScanOutcomes : Prop :=
  ∀ (s : State) (rest : List Event) (scan again : SesStep), u3Next s rest →
    ((scan = .dScan1 ∧ again = .dPing2) ∨ (scan = .dScan2 ∧ again = .dPing1)) → atStep scan s →
      let s' := (drawRead (withEvents rest s)).2
      ((drawRead s).1 = .ioError →
        step s = .next (sesFail .ioFailure .discovery 4 (toU32 s.u3.matchIdx) 0 0 s')) ∧
      ∀ r, (drawRead s).1 = .bytes r →
        let found := scanBytes s.par.matchRetest s.u3.matchIdx r
        (found.2 = true →
          step s =
            .next
              { s' with u3 := { s.u3 with matchIdx := 4, sesState := .signatureExchange, sesStep := .sigSend } }) ∧
        (found.2 = false → s.u3.t0 + s.par.tDiscovery ≤ s.u3.t →
          step s =
            .next
              (sesFail .discoveryTimeout .discovery 4 (toU32 found.1) 0 0
                { s' with u3 := { s.u3 with matchIdx := found.1 } })) ∧
        (found.2 = false → s.u3.t < s.u3.t0 + s.par.tDiscovery →
          step s = .next { s' with u3 := { s.u3 with matchIdx := found.1, sesStep := again } })

/-- Scanning two reads is scanning their concatenation, up to the match. A stream that goes on with the rest of "MKBL"
matches. A match means that "MKBL" stands in the bytes, after those already matched. "MMKBL" and "MKMKBL" match only
with MATCH_RETEST. (R167) -/
def Obligations.MatcherFindsIdent : Prop :=
  (∀ (retest : Bool) (idx : Nat) (r1 r2 : List Byte),
    scanBytes retest idx (r1 ++ r2) =
      if (scanBytes retest idx r1).2 = true then scanBytes retest idx r1
      else scanBytes retest (scanBytes retest idx r1).1 r2) ∧
  (∀ (retest : Bool) (idx : Nat) (more : List Byte), idx < 4 →
    scanBytes retest idx (identBytes.drop idx ++ more) = (4, true)) ∧
  (∀ (retest : Bool) (idx : Nat) (r : List Byte), idx < 4 → (scanBytes retest idx r).2 = true →
    identBytes <:+: identBytes.take idx ++ r) ∧
  ∀ retest : Bool,
    (scanBytes retest 0 [0x4D, 0x4D, 0x4B, 0x42, 0x4C]).2 = retest ∧
      (scanBytes retest 0 [0x4D, 0x4B, 0x4D, 0x4B, 0x42, 0x4C]).2 = retest

/-- Where the written cells are exactly those below total_bytes, the chunk of every block can be read, has block_size
bytes, and its byte i is the image byte at k*block_size + i below total_bytes and PAD_BYTE from there on. (R202, R55) -/
def Obligations.ChunkContents : Prop :=
  ∀ (s : State) (k : Nat), imageInv s →
    ∃ bytes, chunk s k = .ok bytes ∧ bytes.length = s.u3.blockSize.toNat ∧
      ∀ i, i < s.u3.blockSize.toNat →
        bytes[i]? =
          if k * s.u3.blockSize.toNat + i < totalBytes s then
            memRead? s.u2.image (k * s.u3.blockSize.toNat + i)
          else some s.par.padByte

/-- When RST is the next move, the step answers a state with every element of the reset table at its value; parameters
and the rest of the environment are kept. State.reset has the same values, and OUTCOME reads 0 there. That the
environment is kept is the model's choice (log 20); what the image cells hold is its choice too and is not stated (log
7). (R45, R270, R271) -/
def Obligations.ResetExact : Prop :=
  (∀ (s : State) (rest : List Event), s.env.events = .rst :: rest →
    ∃ t, step s = .next t ∧ atReset t ∧ t.par = s.par ∧ t.env = { s.env with events := rest }) ∧
  atReset State.reset ∧ readPort State.reset .outcome = .bits 2 0

/-- In a step that is not RST, the time changes only in U3's turn at a Sleep step, and never goes back; tx changes
only in U3's turn at a send step, and then by a prefix of that step's message. (R42, R60, R62) -/
def Obligations.TimeAndTxWriters : Prop :=
  ∀ s t : State, noReset s → step s = .next t →
    (t.u3.t = s.u3.t ∨ (s.u3.t ≤ t.u3.t ∧ ∃ rest, u3Next s rest ∧ u3Fetch s = .ok .sleep)) ∧
    (t.u3.tx = s.u3.tx ∨
      ∃ rest i n, u3Next s rest ∧ u3Fetch s = .ok (.send i) ∧ t.u3.tx = s.u3.tx ++ (encode i).take n)

/-- In a step that is not RST, crc_h changes only by CRC.INIT or CRC.UPDATE, and crc_s only in U3's turn at BLK_CRC,
where it becomes the CRC of the current chunk. (R22, R23, R106, R205) -/
def Obligations.CrcWriters : Prop :=
  ∀ s t : State, noReset s → step s = .next t →
    (t.crcH ≠ s.crcH → ∃ w rest, s.env.events = .word w :: rest ∧ (w = 0x0100 ∨ cwOp w = 0x02)) ∧
    (t.u3.crcS ≠ s.u3.crcS →
      ∃ rest bytes, u3Next s rest ∧ atStep .blkCrc s ∧ chunk s s.u3.blk.toNat = .ok bytes ∧
        t.u3.crcS = crcOf s.par bytes)

/-- A step keeps the parameters. U3's turn keeps U1, U2 and the refused mark. A control word other than CRC.INIT and
CRC.UPDATE keeps crc_h, one other than HEX.CHAR and HEX.END keeps U2, and one other than SES.START keeps U3. Setting
EXPECTED_KIND, a move of the model's environment (log 18), keeps every unit and the refused mark. (R22, R59, R64,
R258, R273, R274) -/
def Obligations.UnitsSeparate : Prop :=
  ∀ s t : State, step s = .next t →
    t.par = s.par ∧
    (∀ rest, u3Next s rest → t.u2 = s.u2 ∧ t.crcH = s.crcH ∧ t.refused = s.refused) ∧
    (∀ w rest, s.env.events = .word w :: rest →
      (cwOp w ≠ 0x01 → cwOp w ≠ 0x02 → t.crcH = s.crcH) ∧
      (cwOp w ≠ 0x10 → cwOp w ≠ 0x11 → t.u2 = s.u2) ∧
      (cwOp w ≠ 0x20 → t.u3 = s.u3)) ∧
    ∀ k rest, s.env.events = .expect k :: rest →
      t.u2 = s.u2 ∧ t.u3 = s.u3 ∧ t.crcH = s.crcH ∧ t.refused = s.refused

/-- From every state in which U2 is DONE, every step that is not RST leaves all of U2 as it was, the image and
total_bytes among it. (R54) -/
def Obligations.DoneImageFrozen : Prop :=
  ∀ s t : State, s.u2.hxState = .done → noReset s → step s = .next t → t.u2 = s.u2

/-- From a state in which U3 is FAILED, every step that is not RST leaves all of U3 as it was; from one in which U2 is
in ERROR, all of U2. (R144, R261) -/
def Obligations.FailuresAbsorb : Prop :=
  ∀ s t : State, noReset s → step s = .next t →
    (s.u3.sesState = .failed → t.u3 = s.u3) ∧ (s.u2.hxState = .error → t.u2 = s.u2)

/-- If U3's turn takes s to t, then from s with any other crc_h it takes the same turn, to t with that crc_h: no use
of the CRC unit by the HOST changes what a session does. (R59, R106, R279) -/
def Obligations.CrcIndependence : Prop :=
  ∀ (s t : State) (rest : List Event) (c : Word16), u3Next s rest → step s = .next t →
    step { s with crcH := c } = .next { t with crcH := c }

/-- In a step that is not RST, every address below the old cursor and every address from the new cursor on reads as
before; every address in between is written; the cursor moves by at most 255; and a memory in canonical form stays so.
(R52) -/
def Obligations.ImageWriteOrder : Prop :=
  ∀ s t : State, noReset s → step s = .next t →
    s.u2.cursor.toNat ≤ t.u2.cursor.toNat ∧ t.u2.cursor.toNat ≤ s.u2.cursor.toNat + 255 ∧
    (∀ a, (a < s.u2.cursor.toNat ∨ t.u2.cursor.toNat ≤ a) → memRead? t.u2.image a = memRead? s.u2.image a) ∧
    (∀ a, s.u2.cursor.toNat ≤ a → a < t.u2.cursor.toNat → (memRead? t.u2.image a).isSome = true) ∧
    (Memory.wf s.u2.image → Memory.wf t.u2.image)

/-- From every state in which the written cells are exactly 0 to cursor - 1 and exist, and in which TOTAL_MISMATCH is
not recorded, every next state has both again: TOTAL_MISMATCH is never raised. (R29, R52, R55, R139, R241) -/
def Obligations.ImageInvariantKept : Prop :=
  ∀ s t : State, imageInv s → s.u2.hxCode ≠ .totalMismatch → step s = .next t →
    imageInv t ∧ t.u2.hxCode ≠ .totalMismatch

/-- Every step keeps that cur_off is a multiple of 16 up to 0xFFFF0 and the cursor at most 0x1100EE; that the line
buffer is within LINE_MAX, empty in SEEK and DONE, and starts with ':' in COLLECT; and that U2's error register is
clear outside ERROR and names an error in it. (R26, R28, R32, R143) -/
def Obligations.ParserInvariantKept : Prop :=
  ∀ s t : State, step s = .next t →
    (boundsInv s → boundsInv t) ∧ (lineInv s → lineInv t) ∧ (hexErrorInv s → hexErrorInv t)

/-- Every step keeps: each step lies in its stage; a started session's image is DONE; past SIGNATURE_EXCHANGE the kind
is the signature's and no expected kind differs; past DEVICE_CONFIGURED the block size is not 0; 'X' is only for kinds
that need it; blk is below the block count of R201 while a block is sent and equals it in COMPLETE. (R36, R39, R160,
R170, R171, R174, R175, R201, R207) -/
def Obligations.SessionInvariantKept : Prop :=
  ∀ s t : State, sessionInv s → step s = .next t → sessionInv t

/-- Every step keeps: the fail register is clear outside FAILED and names an error in it; the match index is at most 4
and below 4 while U3 scans; a wait's buffer is short of its reply; t0 and w_start are not past t. (R33, R34, R37, R40,
R164, R167) -/
def Obligations.SessionRegistersKept : Prop :=
  ∀ s t : State, step s = .next t →
    (sesErrorInv s → sesErrorInv t) ∧ (matchInv s → matchInv t) ∧ (waitInv s → waitInv t) ∧ (timeInv s → timeInv t)

/-- Every step from a state of a session keeps: unless U3 has failed, tx is the reset frame, some number of
alternating pings, and then each message of R211 in order, as far as U3's step says; at END it is the whole of R211's
list. So no message is sent twice, none is skipped, and no other is sent. (R162, R208, R209, R211) -/
def Obligations.TxHistoryKept : Prop :=
  ∀ s t : State, sessionInv s → imageInv s → txInv s → step s = .next t → txInv t

/-- From every state with the session's and the image's invariant, a step whose next move is no reserved word answers
a next state, never a fault or a refusal, and keeps the run meaningful (no word refused); and U3 has an enabled step
exactly when ses_active is true. A reserved word ends the run's meaning; that the model answers a next state for it
too is its choice (log 6). (R41, R55, R74, R161, R201, R267, R268) -/
def Obligations.SessionNeverStops : Prop :=
  ∀ s : State, sessionInv s → imageInv s →
    (¬ reservedNext s → ∃ t, step s = .next t ∧ (meaningful s → meaningful t)) ∧
    (reservedNext s → ∃ t, step s = .next t ∧ ¬ meaningful t) ∧
    ((∃ a, u3Fetch s = .ok a ∧ a ≠ .idle) ↔ sesActive s = true)

/-- From every state with the session's and the image's invariant in which only U3 moves, there is a number of steps
after which U3 is no longer active. (R168, R268) -/
def Obligations.SessionEnds : Prop :=
  ∀ s : State, sessionInv s → imageInv s → s.env.events = [] →
    ∃ n t, runFor n s = some t ∧ sesActive t = false

/-- In every state with the session's invariant, if U3's next message is 'X' or 'e', then the kind is the one
SIG_TABLE gives the signature, and it is the expected kind if one was latched. (R171, R277) -/
def Obligations.IdentityBeforeErase : Prop :=
  ∀ (s : State) (i : Instr), sessionInv s → u3Fetch s = .ok (.send i) →
    (i = .txErase ∨ ∃ size, i = .txEraseSize size) →
      ∃ k, s.u3.kind = some k ∧ sigKind s.par.sigTable s.u3.sig = some k ∧
        (s.u3.expKind = none ∨ s.u3.expKind = some k)

/-- State.reset has the image, parser, session, register and tx invariants, and a memory in canonical form. That its
memory lists no cell is the model's choice (log 7). (R45, R271) -/
def Obligations.InvariantsAtReset : Prop :=
  imageInv State.reset ∧ Memory.wf State.reset.u2.image ∧ State.reset.u2.hxCode ≠ .totalMismatch ∧
  boundsInv State.reset ∧ lineInv State.reset ∧ hexErrorInv State.reset ∧ sessionInv State.reset ∧
  sesErrorInv State.reset ∧ matchInv State.reset ∧ waitInv State.reset ∧ timeInv State.reset ∧ txInv State.reset

/-- The acknowledgement of 'A' with block_size 0 stops with blockCountUndefined, a block-size reply without a device
kind with noDeviceKind, and the CRC part of a block with the fault of the chunk it cannot read. No run reaches these
states; that the model stops there is its choice (log 7, log 8). (R50, R55, R174, R201) -/
def Obligations.StopsAreNamed : Prop :=
  ∀ s : State,
    (atRead .addrWait s → s.u3.blockSize = 0 → exec .rxOk s = .fault .blockCountUndefined) ∧
    (atRead .bsizeWait s → s.u3.kind = none →
      ∀ hi lo : Byte, hi ≠ 0 ∨ lo ≠ 0 → exec (.rxBsizeReply hi lo) s = .fault .noDeviceKind) ∧
    (atStep .blkCrc s → ∀ f c, chunk s s.u3.blk.toNat = .error f → exec (.txBlock (.crc c)) s = .fault f)

/-- The codes of hx_state, ses_state, ses_step, w_phase, hx_code, ses_code and ses_op are those of their tables. In
every state each port shows the element the table of ports names, and each derived flag is its function of the state.
OUTCOME is 2 when U3 is FAILED or U2 in ERROR, 1 when U3 is in COMPLETE at END over a DONE image, else 0; that success
also asks for the DONE image is the model's reading of R43 and R268 (log 14), and in a session's states COMPLETE at
END alone gives 1. (R25, R35, R36, R40, R43, R44, R142, R232, R268) -/
def Obligations.StatusPorts : Prop :=
  ([.seek, .collect, .done, .error].map hexStateCode = [0, 1, 2, 3] ∧
    [.idle, .discovering, .signatureExchange, .deviceConfigured, .flashCleared, .transferring, .complete, .failed].map
        sesStateCode = [0, 1, 2, 3, 4, 5, 6, 7] ∧
    [.stepNone, .dReset, .dSettle, .dPing1, .dGap1, .dScan1, .dPing2, .dGap2, .dScan2, .sigSend, .sigWait, .setdevSend,
        .setdevWait, .verSend, .verWait, .bsizeSend, .bsizeWait, .xsizeSend, .xsizeWait, .eraseSend, .eraseWait,
        .addrSend, .addrWait, .blkHdr, .blkData, .blkCrc, .blkWait, .exitSend, .stepEnd].map sesStepCode =
      [0x00, 0x01, 0x02, 0x03, 0x04, 0x05, 0x06, 0x07, 0x08, 0x10, 0x11, 0x20, 0x21, 0x22, 0x23, 0x24, 0x25, 0x30,
        0x31, 0x32, 0x33, 0x40, 0x41, 0x42, 0x43, 0x44, 0x45, 0x50, 0xFF] ∧
    [.sleep, .read].map wPhaseCode = [0, 1] ∧
    [.noError, .lineTooShort, .badHexDigit, .lengthMismatch, .lineTooLong, .checksumMismatch, .nonContiguousData,
        .nonContiguousSegment, .unsupportedRecord, .totalMismatch, .missingEof, .emptyImage, .badExtAddr,
        .imageOverflow].map hexCodeValue =
      [0x00, 0x11, 0x12, 0x13, 0x14, 0x15, 0x21, 0x22, 0x23, 0x24, 0x25, 0x26, 0x27, 0x28] ∧
    [.noError, .discoveryTimeout, .responseTimeout, .responseTooLong, .notOk, .unknownSignature, .identityMismatch,
        .badMarker, .zeroBlockSize, .eraseSizeRange, .noImage, .ioFailure].map sesCodeValue =
      [0x00, 0x31, 0x32, 0x33, 0x34, 0x35, 0x36, 0x37, 0x38, 0x39, 0x3A, 0x41] ∧
    [.opNone, .resetFrame, .ping, .discovery, .sig, .setdev, .ver, .bsize, .xsize, .erase, .setaddr, .block, .exit,
        .start].map sesOpValue = [0, 1, 2, 3, 4, 5, 6, 7, 8, 9, 10, 11, 12, 13]) ∧
  ∀ s : State,
    (readPort s .crcOut = .bits 16 s.crcH ∧
      readPort s .hexState = .bits 2 (hexStateCode s.u2.hxState) ∧
      readPort s .hexTotal = .bits 32 s.u2.cursor ∧ totalBytes s = s.u2.cursor.toNat ∧
      readPort s .hexCode = .bits 8 (hexCodeValue s.u2.hxCode) ∧
      readPort s .hexLine = .bits 32 s.u2.hxLine ∧ readPort s .hexRec = .bits 32 s.u2.hxRec ∧
      readPort s .hexVal = .bits 8 s.u2.hxVal ∧ readPort s .cksumBad = .bits 32 s.u2.cksumBad ∧
      readPort s .sesState = .bits 3 (sesStateCode s.u3.sesState) ∧
      readPort s .sesStep = .bits 8 (sesStepCode s.u3.sesStep) ∧
      readPort s .sesCode = .bits 8 (sesCodeValue s.u3.sesCode) ∧
      readPort s .sesOp = .bits 8 (sesOpValue s.u3.sesOp) ∧
      readPort s .sesExp = .bits 32 s.u3.sesExp ∧ readPort s .sesObs = .bits 32 s.u3.sesObs ∧
      readPort s .sesVal = .bits 8 s.u3.sesVal ∧ readPort s .sesBlk = .bits 32 s.u3.sesBlk ∧
      readPort s .devSig = .bits 8 s.u3.sig ∧ readPort s .devKind = .kind s.u3.kind ∧
      readPort s .blockSize = .bits 16 s.u3.blockSize ∧ readPort s .blkIndex = .bits 32 s.u3.blk ∧
      readPort s .hexExp = .bits 32 s.u2.hxExp ∧ readPort s .hexObs = .bits 32 s.u2.hxObs) ∧
    ((imageReady s = true ↔ s.u2.hxState = .done) ∧ (hexFailed s = true ↔ s.u2.hxState = .error) ∧
      (sesActive s = true ↔ s.u3.sesState ≠ .idle ∧ s.u3.sesState ≠ .failed ∧ s.u3.sesStep ≠ .stepEnd) ∧
      (sesDone s = true ↔ s.u3.sesState = .complete ∧ s.u3.sesStep = .stepEnd) ∧
      (sesFailed s = true ↔ s.u3.sesState = .failed)) ∧
    readPort s .outcome =
      .bits 2
        (if s.u3.sesState = .failed ∨ s.u2.hxState = .error then 2
        else if s.u3.sesState = .complete ∧ s.u3.sesStep = .stepEnd ∧ s.u2.hxState = .done then 1
        else 0) ∧
    (sessionInv s → s.u3.sesState = .complete → s.u3.sesStep = .stepEnd → readPort s .outcome = .bits 2 1)
end

