-- ==== Sys2Proof/Laws/Memory.lean ====
section
/-! SUPPORT. The laws of the image memory: what a read gives after a write, and that every operation keeps the
canonical form. -/

namespace Sys2Proof.Machine

/-- A read after a write: the written byte at its address, everything else as before. -/
theorem memRead?_memWrite (m : Memory) (a : Nat) (v : Byte) (x : Nat) :
    memRead? (memWrite m a v) x = if x = a then some v else memRead? m x := by
  induction m with
  | nil => simp [memWrite, memRead?, eq_comm]
  | cons c rest ih =>
    obtain ⟨y, b⟩ := c
    simp only [memWrite]
    split
    · simp [memRead?, eq_comm]
    · split
      · rename_i h
        subst h
        by_cases hx : a = x <;> simp [memRead?, hx, eq_comm]
      · rename_i h1 h2
        simp only [memRead?, ih]
        by_cases hy : y = x
        · have : x ≠ a := by omega
          simp [hy, this]
        · simp [hy]

/-- A read after a payload was written: its bytes at their addresses, everything else as before. -/
theorem memRead?_memWriteBytes (bytes : List Byte) (m : Memory) (a x : Nat) :
    memRead? (memWriteBytes m a bytes) x =
      if a ≤ x ∧ x < a + bytes.length then bytes[x - a]? else memRead? m x := by
  induction bytes generalizing m a with
  | nil =>
    have : ¬ (a ≤ x ∧ x < a + ([] : List Byte).length) := by simp
    simp only [memWriteBytes, if_neg this]
  | cons v rest ih =>
    simp only [memWriteBytes, ih, memRead?_memWrite, List.length_cons]
    by_cases hxa : x = a
    · subst hxa
      have h1 : ¬ (x + 1 ≤ x ∧ x < x + 1 + rest.length) := by omega
      have h2 : x ≤ x ∧ x < x + (rest.length + 1) := by omega
      rw [if_neg h1, if_pos h2]
      simp
    · by_cases hx : a ≤ x ∧ x < a + (rest.length + 1)
      · have h1 : a + 1 ≤ x ∧ x < a + 1 + rest.length := by omega
        have h2 : x - a = (x - (a + 1)) + 1 := by omega
        rw [if_pos h1, if_pos hx, h2, List.getElem?_cons_succ]
      · have h1 : ¬ (a + 1 ≤ x ∧ x < a + 1 + rest.length) := by omega
        rw [if_neg h1, if_neg hx, if_neg hxa]

/-- The addresses of a memory after a write: the written one among them. -/
theorem mem_addresses_memWrite (m : Memory) (a : Nat) (v : Byte) (x : Nat) :
    x ∈ (memWrite m a v).map Prod.fst ↔ x = a ∨ x ∈ m.map Prod.fst := by
  induction m with
  | nil => simp [memWrite]
  | cons c rest ih =>
    obtain ⟨y, b⟩ := c
    simp only [memWrite]
    split
    · simp
    · split
      · rename_i h
        subst h
        simp
      · simp only [List.map_cons, List.mem_cons, ih]
        tauto

/-- A write keeps the canonical form. -/
theorem memWrite_wf (m : Memory) (a : Nat) (v : Byte) (h : Memory.wf m) : Memory.wf (memWrite m a v) := by
  induction m with
  | nil => simp [memWrite, Memory.wf]
  | cons c rest ih =>
    obtain ⟨y, b⟩ := c
    have hp : (∀ z ∈ rest.map Prod.fst, y < z) ∧ Memory.wf rest := by
      simpa [Memory.wf, List.pairwise_cons] using h
    simp only [memWrite]
    split
    · rename_i hlt
      refine List.pairwise_cons.2 ⟨fun z hz => ?_, h⟩
      rcases List.mem_cons.1 hz with rfl | hz
      · exact hlt
      · exact lt_trans hlt (hp.1 z hz)
    · split
      · rename_i heq
        subst heq
        exact h
      · refine List.pairwise_cons.2 ⟨fun z hz => ?_, ih hp.2⟩
        rcases (mem_addresses_memWrite rest a v z).1 hz with rfl | hz
        · omega
        · exact hp.1 z hz

/-- A payload write keeps the canonical form. -/
theorem memWriteBytes_wf (bytes : List Byte) (m : Memory) (a : Nat) (h : Memory.wf m) :
    Memory.wf (memWriteBytes m a bytes) := by
  induction bytes generalizing m a with
  | nil => exact h
  | cons v rest ih => exact ih _ _ (memWrite_wf m a v h)

/-- A write past every listed address is an append. -/
theorem memWrite_append (m : Memory) (a : Nat) (v : Byte) (h : ∀ x ∈ m.map Prod.fst, x < a) :
    memWrite m a v = m ++ [(a, v)] := by
  induction m with
  | nil => rfl
  | cons c rest ih =>
    obtain ⟨y, b⟩ := c
    have hy : y < a := h y (by simp)
    have h1 : ¬ a < y := by omega
    have h2 : a ≠ y := by omega
    simp only [memWrite, if_neg h1, if_neg h2, List.cons_append]
    rw [ih fun x hx => h x (List.mem_cons_of_mem _ hx)]

/-- A payload written at the first unlisted address extends a memory that lists `0 .. n - 1`. -/
theorem memWriteBytes_addresses (bytes : List Byte) (m : Memory) (n : Nat) (h : m.map Prod.fst = List.range n) :
    (memWriteBytes m n bytes).map Prod.fst = List.range (n + bytes.length) := by
  induction bytes generalizing m n with
  | nil => simpa [memWriteBytes] using h
  | cons v rest ih =>
    have hlt : ∀ x ∈ m.map Prod.fst, x < n := by simp [h]
    have hnext : (memWrite m n v).map Prod.fst = List.range (n + 1) := by
      simp [memWrite_append m n v hlt, h, List.range_succ]
    have := ih (memWrite m n v) (n + 1) hnext
    rw [memWriteBytes, this, List.length_cons]
    congr 1
    omega

/-- An address is readable exactly when it is listed. -/
theorem memRead?_isSome (m : Memory) (a : Nat) : (memRead? m a).isSome = true ↔ a ∈ m.map Prod.fst := by
  induction m with
  | nil => simp [memRead?]
  | cons c rest ih =>
    obtain ⟨y, b⟩ := c
    by_cases h : y = a
    · simp [memRead?, h]
    · have h' : a ≠ y := fun e => h e.symm
      simp only [memRead?, if_neg h, List.map_cons, List.mem_cons, ih, h', false_or]

/-- The image after reset is in canonical form. -/
theorem reset_memory_wf : Memory.wf State.reset.u2.image := by decide

end Sys2Proof.Machine
end

