-- ==== Sys2Proof/Laws/State.lean ====
section
/-! SUPPORT. One lemma per field per update of the state, each true by `rfl` (by cases for the draws), so that no proof
unfolds a record update. -/

namespace Sys2Proof.Machine

/-! ## `hexError` -/

@[simp] theorem hexError_hxState (code : HexCode) (val : Byte) (exp obs : Word32) (u : HexUnit) : (hexError code val exp obs u).hxState = .error :=
  rfl

@[simp] theorem hexError_line (code : HexCode) (val : Byte) (exp obs : Word32) (u : HexUnit) : (hexError code val exp obs u).line = u.line :=
  rfl

@[simp] theorem hexError_lineNo (code : HexCode) (val : Byte) (exp obs : Word32) (u : HexUnit) : (hexError code val exp obs u).lineNo = u.lineNo :=
  rfl

@[simp] theorem hexError_recIndex (code : HexCode) (val : Byte) (exp obs : Word32) (u : HexUnit) : (hexError code val exp obs u).recIndex = u.recIndex :=
  rfl

@[simp] theorem hexError_curOff (code : HexCode) (val : Byte) (exp obs : Word32) (u : HexUnit) : (hexError code val exp obs u).curOff = u.curOff :=
  rfl

@[simp] theorem hexError_cursor (code : HexCode) (val : Byte) (exp obs : Word32) (u : HexUnit) : (hexError code val exp obs u).cursor = u.cursor :=
  rfl

@[simp] theorem hexError_image (code : HexCode) (val : Byte) (exp obs : Word32) (u : HexUnit) : (hexError code val exp obs u).image = u.image :=
  rfl

@[simp] theorem hexError_cksumBad (code : HexCode) (val : Byte) (exp obs : Word32) (u : HexUnit) : (hexError code val exp obs u).cksumBad = u.cksumBad :=
  rfl

@[simp] theorem hexError_hxCode (code : HexCode) (val : Byte) (exp obs : Word32) (u : HexUnit) : (hexError code val exp obs u).hxCode = code :=
  rfl

@[simp] theorem hexError_hxLine (code : HexCode) (val : Byte) (exp obs : Word32) (u : HexUnit) : (hexError code val exp obs u).hxLine = u.lineNo :=
  rfl

@[simp] theorem hexError_hxRec (code : HexCode) (val : Byte) (exp obs : Word32) (u : HexUnit) : (hexError code val exp obs u).hxRec = u.recIndex :=
  rfl

@[simp] theorem hexError_hxVal (code : HexCode) (val : Byte) (exp obs : Word32) (u : HexUnit) : (hexError code val exp obs u).hxVal = val :=
  rfl

@[simp] theorem hexError_hxExp (code : HexCode) (val : Byte) (exp obs : Word32) (u : HexUnit) : (hexError code val exp obs u).hxExp = exp :=
  rfl

@[simp] theorem hexError_hxObs (code : HexCode) (val : Byte) (exp obs : Word32) (u : HexUnit) : (hexError code val exp obs u).hxObs = obs :=
  rfl

/-! ## `sesFail` -/

@[simp] theorem sesFail_par (code : SesCode) (op : SesOp) (exp obs : Word32) (val : Byte) (blk : Word32) (s : State) : (sesFail code op exp obs val blk s).par = s.par :=
  rfl

@[simp] theorem sesFail_env (code : SesCode) (op : SesOp) (exp obs : Word32) (val : Byte) (blk : Word32) (s : State) : (sesFail code op exp obs val blk s).env = s.env :=
  rfl

@[simp] theorem sesFail_crcH (code : SesCode) (op : SesOp) (exp obs : Word32) (val : Byte) (blk : Word32) (s : State) : (sesFail code op exp obs val blk s).crcH = s.crcH :=
  rfl

@[simp] theorem sesFail_u2 (code : SesCode) (op : SesOp) (exp obs : Word32) (val : Byte) (blk : Word32) (s : State) : (sesFail code op exp obs val blk s).u2 = s.u2 :=
  rfl

@[simp] theorem sesFail_refused (code : SesCode) (op : SesOp) (exp obs : Word32) (val : Byte) (blk : Word32) (s : State) : (sesFail code op exp obs val blk s).refused = s.refused :=
  rfl

@[simp] theorem sesFail_u3_crcS (code : SesCode) (op : SesOp) (exp obs : Word32) (val : Byte) (blk : Word32) (s : State) : (sesFail code op exp obs val blk s).u3.crcS = s.u3.crcS :=
  rfl

@[simp] theorem sesFail_u3_t (code : SesCode) (op : SesOp) (exp obs : Word32) (val : Byte) (blk : Word32) (s : State) : (sesFail code op exp obs val blk s).u3.t = s.u3.t :=
  rfl

@[simp] theorem sesFail_u3_t0 (code : SesCode) (op : SesOp) (exp obs : Word32) (val : Byte) (blk : Word32) (s : State) : (sesFail code op exp obs val blk s).u3.t0 = s.u3.t0 :=
  rfl

@[simp] theorem sesFail_u3_wStart (code : SesCode) (op : SesOp) (exp obs : Word32) (val : Byte) (blk : Word32) (s : State) : (sesFail code op exp obs val blk s).u3.wStart = s.u3.wStart :=
  rfl

@[simp] theorem sesFail_u3_matchIdx (code : SesCode) (op : SesOp) (exp obs : Word32) (val : Byte) (blk : Word32) (s : State) : (sesFail code op exp obs val blk s).u3.matchIdx = s.u3.matchIdx :=
  rfl

@[simp] theorem sesFail_u3_sesState (code : SesCode) (op : SesOp) (exp obs : Word32) (val : Byte) (blk : Word32) (s : State) : (sesFail code op exp obs val blk s).u3.sesState = .failed :=
  rfl

@[simp] theorem sesFail_u3_sesStep (code : SesCode) (op : SesOp) (exp obs : Word32) (val : Byte) (blk : Word32) (s : State) : (sesFail code op exp obs val blk s).u3.sesStep = .stepEnd :=
  rfl

@[simp] theorem sesFail_u3_wPhase (code : SesCode) (op : SesOp) (exp obs : Word32) (val : Byte) (blk : Word32) (s : State) : (sesFail code op exp obs val blk s).u3.wPhase = .sleep :=
  rfl

@[simp] theorem sesFail_u3_rxbuf (code : SesCode) (op : SesOp) (exp obs : Word32) (val : Byte) (blk : Word32) (s : State) : (sesFail code op exp obs val blk s).u3.rxbuf = s.u3.rxbuf :=
  rfl

@[simp] theorem sesFail_u3_sig (code : SesCode) (op : SesOp) (exp obs : Word32) (val : Byte) (blk : Word32) (s : State) : (sesFail code op exp obs val blk s).u3.sig = s.u3.sig :=
  rfl

@[simp] theorem sesFail_u3_kind (code : SesCode) (op : SesOp) (exp obs : Word32) (val : Byte) (blk : Word32) (s : State) : (sesFail code op exp obs val blk s).u3.kind = s.u3.kind :=
  rfl

@[simp] theorem sesFail_u3_expKind (code : SesCode) (op : SesOp) (exp obs : Word32) (val : Byte) (blk : Word32) (s : State) : (sesFail code op exp obs val blk s).u3.expKind = s.u3.expKind :=
  rfl

@[simp] theorem sesFail_u3_blockSize (code : SesCode) (op : SesOp) (exp obs : Word32) (val : Byte) (blk : Word32) (s : State) : (sesFail code op exp obs val blk s).u3.blockSize = s.u3.blockSize :=
  rfl

@[simp] theorem sesFail_u3_blk (code : SesCode) (op : SesOp) (exp obs : Word32) (val : Byte) (blk : Word32) (s : State) : (sesFail code op exp obs val blk s).u3.blk = s.u3.blk :=
  rfl

@[simp] theorem sesFail_u3_nblocks (code : SesCode) (op : SesOp) (exp obs : Word32) (val : Byte) (blk : Word32) (s : State) : (sesFail code op exp obs val blk s).u3.nblocks = s.u3.nblocks :=
  rfl

@[simp] theorem sesFail_u3_sesCode (code : SesCode) (op : SesOp) (exp obs : Word32) (val : Byte) (blk : Word32) (s : State) : (sesFail code op exp obs val blk s).u3.sesCode = code :=
  rfl

@[simp] theorem sesFail_u3_sesOp (code : SesCode) (op : SesOp) (exp obs : Word32) (val : Byte) (blk : Word32) (s : State) : (sesFail code op exp obs val blk s).u3.sesOp = op :=
  rfl

@[simp] theorem sesFail_u3_sesExp (code : SesCode) (op : SesOp) (exp obs : Word32) (val : Byte) (blk : Word32) (s : State) : (sesFail code op exp obs val blk s).u3.sesExp = exp :=
  rfl

@[simp] theorem sesFail_u3_sesObs (code : SesCode) (op : SesOp) (exp obs : Word32) (val : Byte) (blk : Word32) (s : State) : (sesFail code op exp obs val blk s).u3.sesObs = obs :=
  rfl

@[simp] theorem sesFail_u3_sesVal (code : SesCode) (op : SesOp) (exp obs : Word32) (val : Byte) (blk : Word32) (s : State) : (sesFail code op exp obs val blk s).u3.sesVal = val :=
  rfl

@[simp] theorem sesFail_u3_sesBlk (code : SesCode) (op : SesOp) (exp obs : Word32) (val : Byte) (blk : Word32) (s : State) : (sesFail code op exp obs val blk s).u3.sesBlk = blk :=
  rfl

@[simp] theorem sesFail_u3_tx (code : SesCode) (op : SesOp) (exp obs : Word32) (val : Byte) (blk : Word32) (s : State) : (sesFail code op exp obs val blk s).u3.tx = s.u3.tx :=
  rfl

/-! ## `goStep` -/

@[simp] theorem goStep_par (step : SesStep) (s : State) : (goStep step s).par = s.par :=
  rfl

@[simp] theorem goStep_env (step : SesStep) (s : State) : (goStep step s).env = s.env :=
  rfl

@[simp] theorem goStep_crcH (step : SesStep) (s : State) : (goStep step s).crcH = s.crcH :=
  rfl

@[simp] theorem goStep_u2 (step : SesStep) (s : State) : (goStep step s).u2 = s.u2 :=
  rfl

@[simp] theorem goStep_refused (step : SesStep) (s : State) : (goStep step s).refused = s.refused :=
  rfl

@[simp] theorem goStep_u3_crcS (step : SesStep) (s : State) : (goStep step s).u3.crcS = s.u3.crcS :=
  rfl

@[simp] theorem goStep_u3_t (step : SesStep) (s : State) : (goStep step s).u3.t = s.u3.t :=
  rfl

@[simp] theorem goStep_u3_t0 (step : SesStep) (s : State) : (goStep step s).u3.t0 = s.u3.t0 :=
  rfl

@[simp] theorem goStep_u3_wStart (step : SesStep) (s : State) : (goStep step s).u3.wStart = s.u3.wStart :=
  rfl

@[simp] theorem goStep_u3_matchIdx (step : SesStep) (s : State) : (goStep step s).u3.matchIdx = s.u3.matchIdx :=
  rfl

@[simp] theorem goStep_u3_sesState (step : SesStep) (s : State) : (goStep step s).u3.sesState = s.u3.sesState :=
  rfl

@[simp] theorem goStep_u3_sesStep (step : SesStep) (s : State) : (goStep step s).u3.sesStep = step :=
  rfl

@[simp] theorem goStep_u3_wPhase (step : SesStep) (s : State) : (goStep step s).u3.wPhase = s.u3.wPhase :=
  rfl

@[simp] theorem goStep_u3_rxbuf (step : SesStep) (s : State) : (goStep step s).u3.rxbuf = s.u3.rxbuf :=
  rfl

@[simp] theorem goStep_u3_sig (step : SesStep) (s : State) : (goStep step s).u3.sig = s.u3.sig :=
  rfl

@[simp] theorem goStep_u3_kind (step : SesStep) (s : State) : (goStep step s).u3.kind = s.u3.kind :=
  rfl

@[simp] theorem goStep_u3_expKind (step : SesStep) (s : State) : (goStep step s).u3.expKind = s.u3.expKind :=
  rfl

@[simp] theorem goStep_u3_blockSize (step : SesStep) (s : State) : (goStep step s).u3.blockSize = s.u3.blockSize :=
  rfl

@[simp] theorem goStep_u3_blk (step : SesStep) (s : State) : (goStep step s).u3.blk = s.u3.blk :=
  rfl

@[simp] theorem goStep_u3_nblocks (step : SesStep) (s : State) : (goStep step s).u3.nblocks = s.u3.nblocks :=
  rfl

@[simp] theorem goStep_u3_sesCode (step : SesStep) (s : State) : (goStep step s).u3.sesCode = s.u3.sesCode :=
  rfl

@[simp] theorem goStep_u3_sesOp (step : SesStep) (s : State) : (goStep step s).u3.sesOp = s.u3.sesOp :=
  rfl

@[simp] theorem goStep_u3_sesExp (step : SesStep) (s : State) : (goStep step s).u3.sesExp = s.u3.sesExp :=
  rfl

@[simp] theorem goStep_u3_sesObs (step : SesStep) (s : State) : (goStep step s).u3.sesObs = s.u3.sesObs :=
  rfl

@[simp] theorem goStep_u3_sesVal (step : SesStep) (s : State) : (goStep step s).u3.sesVal = s.u3.sesVal :=
  rfl

@[simp] theorem goStep_u3_sesBlk (step : SesStep) (s : State) : (goStep step s).u3.sesBlk = s.u3.sesBlk :=
  rfl

@[simp] theorem goStep_u3_tx (step : SesStep) (s : State) : (goStep step s).u3.tx = s.u3.tx :=
  rfl

/-! ## `goStage` -/

@[simp] theorem goStage_par (stage : SesState) (step : SesStep) (s : State) : (goStage stage step s).par = s.par :=
  rfl

@[simp] theorem goStage_env (stage : SesState) (step : SesStep) (s : State) : (goStage stage step s).env = s.env :=
  rfl

@[simp] theorem goStage_crcH (stage : SesState) (step : SesStep) (s : State) : (goStage stage step s).crcH = s.crcH :=
  rfl

@[simp] theorem goStage_u2 (stage : SesState) (step : SesStep) (s : State) : (goStage stage step s).u2 = s.u2 :=
  rfl

@[simp] theorem goStage_refused (stage : SesState) (step : SesStep) (s : State) : (goStage stage step s).refused = s.refused :=
  rfl

@[simp] theorem goStage_u3_crcS (stage : SesState) (step : SesStep) (s : State) : (goStage stage step s).u3.crcS = s.u3.crcS :=
  rfl

@[simp] theorem goStage_u3_t (stage : SesState) (step : SesStep) (s : State) : (goStage stage step s).u3.t = s.u3.t :=
  rfl

@[simp] theorem goStage_u3_t0 (stage : SesState) (step : SesStep) (s : State) : (goStage stage step s).u3.t0 = s.u3.t0 :=
  rfl

@[simp] theorem goStage_u3_wStart (stage : SesState) (step : SesStep) (s : State) : (goStage stage step s).u3.wStart = s.u3.wStart :=
  rfl

@[simp] theorem goStage_u3_matchIdx (stage : SesState) (step : SesStep) (s : State) : (goStage stage step s).u3.matchIdx = s.u3.matchIdx :=
  rfl

@[simp] theorem goStage_u3_sesState (stage : SesState) (step : SesStep) (s : State) : (goStage stage step s).u3.sesState = stage :=
  rfl

@[simp] theorem goStage_u3_sesStep (stage : SesState) (step : SesStep) (s : State) : (goStage stage step s).u3.sesStep = step :=
  rfl

@[simp] theorem goStage_u3_wPhase (stage : SesState) (step : SesStep) (s : State) : (goStage stage step s).u3.wPhase = s.u3.wPhase :=
  rfl

@[simp] theorem goStage_u3_rxbuf (stage : SesState) (step : SesStep) (s : State) : (goStage stage step s).u3.rxbuf = s.u3.rxbuf :=
  rfl

@[simp] theorem goStage_u3_sig (stage : SesState) (step : SesStep) (s : State) : (goStage stage step s).u3.sig = s.u3.sig :=
  rfl

@[simp] theorem goStage_u3_kind (stage : SesState) (step : SesStep) (s : State) : (goStage stage step s).u3.kind = s.u3.kind :=
  rfl

@[simp] theorem goStage_u3_expKind (stage : SesState) (step : SesStep) (s : State) : (goStage stage step s).u3.expKind = s.u3.expKind :=
  rfl

@[simp] theorem goStage_u3_blockSize (stage : SesState) (step : SesStep) (s : State) : (goStage stage step s).u3.blockSize = s.u3.blockSize :=
  rfl

@[simp] theorem goStage_u3_blk (stage : SesState) (step : SesStep) (s : State) : (goStage stage step s).u3.blk = s.u3.blk :=
  rfl

@[simp] theorem goStage_u3_nblocks (stage : SesState) (step : SesStep) (s : State) : (goStage stage step s).u3.nblocks = s.u3.nblocks :=
  rfl

@[simp] theorem goStage_u3_sesCode (stage : SesState) (step : SesStep) (s : State) : (goStage stage step s).u3.sesCode = s.u3.sesCode :=
  rfl

@[simp] theorem goStage_u3_sesOp (stage : SesState) (step : SesStep) (s : State) : (goStage stage step s).u3.sesOp = s.u3.sesOp :=
  rfl

@[simp] theorem goStage_u3_sesExp (stage : SesState) (step : SesStep) (s : State) : (goStage stage step s).u3.sesExp = s.u3.sesExp :=
  rfl

@[simp] theorem goStage_u3_sesObs (stage : SesState) (step : SesStep) (s : State) : (goStage stage step s).u3.sesObs = s.u3.sesObs :=
  rfl

@[simp] theorem goStage_u3_sesVal (stage : SesState) (step : SesStep) (s : State) : (goStage stage step s).u3.sesVal = s.u3.sesVal :=
  rfl

@[simp] theorem goStage_u3_sesBlk (stage : SesState) (step : SesStep) (s : State) : (goStage stage step s).u3.sesBlk = s.u3.sesBlk :=
  rfl

@[simp] theorem goStage_u3_tx (stage : SesState) (step : SesStep) (s : State) : (goStage stage step s).u3.tx = s.u3.tx :=
  rfl

/-! ## `startWait` -/

@[simp] theorem startWait_par (step : SesStep) (s : State) : (startWait step s).par = s.par :=
  rfl

@[simp] theorem startWait_env (step : SesStep) (s : State) : (startWait step s).env = s.env :=
  rfl

@[simp] theorem startWait_crcH (step : SesStep) (s : State) : (startWait step s).crcH = s.crcH :=
  rfl

@[simp] theorem startWait_u2 (step : SesStep) (s : State) : (startWait step s).u2 = s.u2 :=
  rfl

@[simp] theorem startWait_refused (step : SesStep) (s : State) : (startWait step s).refused = s.refused :=
  rfl

@[simp] theorem startWait_u3_crcS (step : SesStep) (s : State) : (startWait step s).u3.crcS = s.u3.crcS :=
  rfl

@[simp] theorem startWait_u3_t (step : SesStep) (s : State) : (startWait step s).u3.t = s.u3.t :=
  rfl

@[simp] theorem startWait_u3_t0 (step : SesStep) (s : State) : (startWait step s).u3.t0 = s.u3.t0 :=
  rfl

@[simp] theorem startWait_u3_wStart (step : SesStep) (s : State) : (startWait step s).u3.wStart = s.u3.t :=
  rfl

@[simp] theorem startWait_u3_matchIdx (step : SesStep) (s : State) : (startWait step s).u3.matchIdx = s.u3.matchIdx :=
  rfl

@[simp] theorem startWait_u3_sesState (step : SesStep) (s : State) : (startWait step s).u3.sesState = s.u3.sesState :=
  rfl

@[simp] theorem startWait_u3_sesStep (step : SesStep) (s : State) : (startWait step s).u3.sesStep = step :=
  rfl

@[simp] theorem startWait_u3_wPhase (step : SesStep) (s : State) : (startWait step s).u3.wPhase = .sleep :=
  rfl

@[simp] theorem startWait_u3_rxbuf (step : SesStep) (s : State) : (startWait step s).u3.rxbuf = [] :=
  rfl

@[simp] theorem startWait_u3_sig (step : SesStep) (s : State) : (startWait step s).u3.sig = s.u3.sig :=
  rfl

@[simp] theorem startWait_u3_kind (step : SesStep) (s : State) : (startWait step s).u3.kind = s.u3.kind :=
  rfl

@[simp] theorem startWait_u3_expKind (step : SesStep) (s : State) : (startWait step s).u3.expKind = s.u3.expKind :=
  rfl

@[simp] theorem startWait_u3_blockSize (step : SesStep) (s : State) : (startWait step s).u3.blockSize = s.u3.blockSize :=
  rfl

@[simp] theorem startWait_u3_blk (step : SesStep) (s : State) : (startWait step s).u3.blk = s.u3.blk :=
  rfl

@[simp] theorem startWait_u3_nblocks (step : SesStep) (s : State) : (startWait step s).u3.nblocks = s.u3.nblocks :=
  rfl

@[simp] theorem startWait_u3_sesCode (step : SesStep) (s : State) : (startWait step s).u3.sesCode = s.u3.sesCode :=
  rfl

@[simp] theorem startWait_u3_sesOp (step : SesStep) (s : State) : (startWait step s).u3.sesOp = s.u3.sesOp :=
  rfl

@[simp] theorem startWait_u3_sesExp (step : SesStep) (s : State) : (startWait step s).u3.sesExp = s.u3.sesExp :=
  rfl

@[simp] theorem startWait_u3_sesObs (step : SesStep) (s : State) : (startWait step s).u3.sesObs = s.u3.sesObs :=
  rfl

@[simp] theorem startWait_u3_sesVal (step : SesStep) (s : State) : (startWait step s).u3.sesVal = s.u3.sesVal :=
  rfl

@[simp] theorem startWait_u3_sesBlk (step : SesStep) (s : State) : (startWait step s).u3.sesBlk = s.u3.sesBlk :=
  rfl

@[simp] theorem startWait_u3_tx (step : SesStep) (s : State) : (startWait step s).u3.tx = s.u3.tx :=
  rfl

/-! ## `appendTx` -/

@[simp] theorem appendTx_par (m : List Byte) (s : State) : (appendTx m s).par = s.par :=
  rfl

@[simp] theorem appendTx_env (m : List Byte) (s : State) : (appendTx m s).env = s.env :=
  rfl

@[simp] theorem appendTx_crcH (m : List Byte) (s : State) : (appendTx m s).crcH = s.crcH :=
  rfl

@[simp] theorem appendTx_u2 (m : List Byte) (s : State) : (appendTx m s).u2 = s.u2 :=
  rfl

@[simp] theorem appendTx_refused (m : List Byte) (s : State) : (appendTx m s).refused = s.refused :=
  rfl

@[simp] theorem appendTx_u3_crcS (m : List Byte) (s : State) : (appendTx m s).u3.crcS = s.u3.crcS :=
  rfl

@[simp] theorem appendTx_u3_t (m : List Byte) (s : State) : (appendTx m s).u3.t = s.u3.t :=
  rfl

@[simp] theorem appendTx_u3_t0 (m : List Byte) (s : State) : (appendTx m s).u3.t0 = s.u3.t0 :=
  rfl

@[simp] theorem appendTx_u3_wStart (m : List Byte) (s : State) : (appendTx m s).u3.wStart = s.u3.wStart :=
  rfl

@[simp] theorem appendTx_u3_matchIdx (m : List Byte) (s : State) : (appendTx m s).u3.matchIdx = s.u3.matchIdx :=
  rfl

@[simp] theorem appendTx_u3_sesState (m : List Byte) (s : State) : (appendTx m s).u3.sesState = s.u3.sesState :=
  rfl

@[simp] theorem appendTx_u3_sesStep (m : List Byte) (s : State) : (appendTx m s).u3.sesStep = s.u3.sesStep :=
  rfl

@[simp] theorem appendTx_u3_wPhase (m : List Byte) (s : State) : (appendTx m s).u3.wPhase = s.u3.wPhase :=
  rfl

@[simp] theorem appendTx_u3_rxbuf (m : List Byte) (s : State) : (appendTx m s).u3.rxbuf = s.u3.rxbuf :=
  rfl

@[simp] theorem appendTx_u3_sig (m : List Byte) (s : State) : (appendTx m s).u3.sig = s.u3.sig :=
  rfl

@[simp] theorem appendTx_u3_kind (m : List Byte) (s : State) : (appendTx m s).u3.kind = s.u3.kind :=
  rfl

@[simp] theorem appendTx_u3_expKind (m : List Byte) (s : State) : (appendTx m s).u3.expKind = s.u3.expKind :=
  rfl

@[simp] theorem appendTx_u3_blockSize (m : List Byte) (s : State) : (appendTx m s).u3.blockSize = s.u3.blockSize :=
  rfl

@[simp] theorem appendTx_u3_blk (m : List Byte) (s : State) : (appendTx m s).u3.blk = s.u3.blk :=
  rfl

@[simp] theorem appendTx_u3_nblocks (m : List Byte) (s : State) : (appendTx m s).u3.nblocks = s.u3.nblocks :=
  rfl

@[simp] theorem appendTx_u3_sesCode (m : List Byte) (s : State) : (appendTx m s).u3.sesCode = s.u3.sesCode :=
  rfl

@[simp] theorem appendTx_u3_sesOp (m : List Byte) (s : State) : (appendTx m s).u3.sesOp = s.u3.sesOp :=
  rfl

@[simp] theorem appendTx_u3_sesExp (m : List Byte) (s : State) : (appendTx m s).u3.sesExp = s.u3.sesExp :=
  rfl

@[simp] theorem appendTx_u3_sesObs (m : List Byte) (s : State) : (appendTx m s).u3.sesObs = s.u3.sesObs :=
  rfl

@[simp] theorem appendTx_u3_sesVal (m : List Byte) (s : State) : (appendTx m s).u3.sesVal = s.u3.sesVal :=
  rfl

@[simp] theorem appendTx_u3_sesBlk (m : List Byte) (s : State) : (appendTx m s).u3.sesBlk = s.u3.sesBlk :=
  rfl

@[simp] theorem appendTx_u3_tx (m : List Byte) (s : State) : (appendTx m s).u3.tx = s.u3.tx ++ m :=
  rfl

/-! ## `toRead` -/

@[simp] theorem toRead_par (s : State) : (toRead s).par = s.par :=
  rfl

@[simp] theorem toRead_env (s : State) : (toRead s).env = s.env :=
  rfl

@[simp] theorem toRead_crcH (s : State) : (toRead s).crcH = s.crcH :=
  rfl

@[simp] theorem toRead_u2 (s : State) : (toRead s).u2 = s.u2 :=
  rfl

@[simp] theorem toRead_refused (s : State) : (toRead s).refused = s.refused :=
  rfl

@[simp] theorem toRead_u3_crcS (s : State) : (toRead s).u3.crcS = s.u3.crcS :=
  rfl

@[simp] theorem toRead_u3_t (s : State) : (toRead s).u3.t = s.u3.t :=
  rfl

@[simp] theorem toRead_u3_t0 (s : State) : (toRead s).u3.t0 = s.u3.t0 :=
  rfl

@[simp] theorem toRead_u3_wStart (s : State) : (toRead s).u3.wStart = s.u3.wStart :=
  rfl

@[simp] theorem toRead_u3_matchIdx (s : State) : (toRead s).u3.matchIdx = s.u3.matchIdx :=
  rfl

@[simp] theorem toRead_u3_sesState (s : State) : (toRead s).u3.sesState = s.u3.sesState :=
  rfl

@[simp] theorem toRead_u3_sesStep (s : State) : (toRead s).u3.sesStep = s.u3.sesStep :=
  rfl

@[simp] theorem toRead_u3_wPhase (s : State) : (toRead s).u3.wPhase = .read :=
  rfl

@[simp] theorem toRead_u3_rxbuf (s : State) : (toRead s).u3.rxbuf = s.u3.rxbuf :=
  rfl

@[simp] theorem toRead_u3_sig (s : State) : (toRead s).u3.sig = s.u3.sig :=
  rfl

@[simp] theorem toRead_u3_kind (s : State) : (toRead s).u3.kind = s.u3.kind :=
  rfl

@[simp] theorem toRead_u3_expKind (s : State) : (toRead s).u3.expKind = s.u3.expKind :=
  rfl

@[simp] theorem toRead_u3_blockSize (s : State) : (toRead s).u3.blockSize = s.u3.blockSize :=
  rfl

@[simp] theorem toRead_u3_blk (s : State) : (toRead s).u3.blk = s.u3.blk :=
  rfl

@[simp] theorem toRead_u3_nblocks (s : State) : (toRead s).u3.nblocks = s.u3.nblocks :=
  rfl

@[simp] theorem toRead_u3_sesCode (s : State) : (toRead s).u3.sesCode = s.u3.sesCode :=
  rfl

@[simp] theorem toRead_u3_sesOp (s : State) : (toRead s).u3.sesOp = s.u3.sesOp :=
  rfl

@[simp] theorem toRead_u3_sesExp (s : State) : (toRead s).u3.sesExp = s.u3.sesExp :=
  rfl

@[simp] theorem toRead_u3_sesObs (s : State) : (toRead s).u3.sesObs = s.u3.sesObs :=
  rfl

@[simp] theorem toRead_u3_sesVal (s : State) : (toRead s).u3.sesVal = s.u3.sesVal :=
  rfl

@[simp] theorem toRead_u3_sesBlk (s : State) : (toRead s).u3.sesBlk = s.u3.sesBlk :=
  rfl

@[simp] theorem toRead_u3_tx (s : State) : (toRead s).u3.tx = s.u3.tx :=
  rfl

/-! ## `toSleep` -/

@[simp] theorem toSleep_par (s : State) : (toSleep s).par = s.par :=
  rfl

@[simp] theorem toSleep_env (s : State) : (toSleep s).env = s.env :=
  rfl

@[simp] theorem toSleep_crcH (s : State) : (toSleep s).crcH = s.crcH :=
  rfl

@[simp] theorem toSleep_u2 (s : State) : (toSleep s).u2 = s.u2 :=
  rfl

@[simp] theorem toSleep_refused (s : State) : (toSleep s).refused = s.refused :=
  rfl

@[simp] theorem toSleep_u3_crcS (s : State) : (toSleep s).u3.crcS = s.u3.crcS :=
  rfl

@[simp] theorem toSleep_u3_t (s : State) : (toSleep s).u3.t = s.u3.t :=
  rfl

@[simp] theorem toSleep_u3_t0 (s : State) : (toSleep s).u3.t0 = s.u3.t0 :=
  rfl

@[simp] theorem toSleep_u3_wStart (s : State) : (toSleep s).u3.wStart = s.u3.wStart :=
  rfl

@[simp] theorem toSleep_u3_matchIdx (s : State) : (toSleep s).u3.matchIdx = s.u3.matchIdx :=
  rfl

@[simp] theorem toSleep_u3_sesState (s : State) : (toSleep s).u3.sesState = s.u3.sesState :=
  rfl

@[simp] theorem toSleep_u3_sesStep (s : State) : (toSleep s).u3.sesStep = s.u3.sesStep :=
  rfl

@[simp] theorem toSleep_u3_wPhase (s : State) : (toSleep s).u3.wPhase = .sleep :=
  rfl

@[simp] theorem toSleep_u3_rxbuf (s : State) : (toSleep s).u3.rxbuf = s.u3.rxbuf :=
  rfl

@[simp] theorem toSleep_u3_sig (s : State) : (toSleep s).u3.sig = s.u3.sig :=
  rfl

@[simp] theorem toSleep_u3_kind (s : State) : (toSleep s).u3.kind = s.u3.kind :=
  rfl

@[simp] theorem toSleep_u3_expKind (s : State) : (toSleep s).u3.expKind = s.u3.expKind :=
  rfl

@[simp] theorem toSleep_u3_blockSize (s : State) : (toSleep s).u3.blockSize = s.u3.blockSize :=
  rfl

@[simp] theorem toSleep_u3_blk (s : State) : (toSleep s).u3.blk = s.u3.blk :=
  rfl

@[simp] theorem toSleep_u3_nblocks (s : State) : (toSleep s).u3.nblocks = s.u3.nblocks :=
  rfl

@[simp] theorem toSleep_u3_sesCode (s : State) : (toSleep s).u3.sesCode = s.u3.sesCode :=
  rfl

@[simp] theorem toSleep_u3_sesOp (s : State) : (toSleep s).u3.sesOp = s.u3.sesOp :=
  rfl

@[simp] theorem toSleep_u3_sesExp (s : State) : (toSleep s).u3.sesExp = s.u3.sesExp :=
  rfl

@[simp] theorem toSleep_u3_sesObs (s : State) : (toSleep s).u3.sesObs = s.u3.sesObs :=
  rfl

@[simp] theorem toSleep_u3_sesVal (s : State) : (toSleep s).u3.sesVal = s.u3.sesVal :=
  rfl

@[simp] theorem toSleep_u3_sesBlk (s : State) : (toSleep s).u3.sesBlk = s.u3.sesBlk :=
  rfl

@[simp] theorem toSleep_u3_tx (s : State) : (toSleep s).u3.tx = s.u3.tx :=
  rfl

/-! ## `startDiscovery` -/

@[simp] theorem startDiscovery_par (s : State) : (startDiscovery s).par = s.par :=
  rfl

@[simp] theorem startDiscovery_env (s : State) : (startDiscovery s).env = s.env :=
  rfl

@[simp] theorem startDiscovery_crcH (s : State) : (startDiscovery s).crcH = s.crcH :=
  rfl

@[simp] theorem startDiscovery_u2 (s : State) : (startDiscovery s).u2 = s.u2 :=
  rfl

@[simp] theorem startDiscovery_refused (s : State) : (startDiscovery s).refused = s.refused :=
  rfl

@[simp] theorem startDiscovery_u3_crcS (s : State) : (startDiscovery s).u3.crcS = s.u3.crcS :=
  rfl

@[simp] theorem startDiscovery_u3_t (s : State) : (startDiscovery s).u3.t = s.u3.t :=
  rfl

@[simp] theorem startDiscovery_u3_t0 (s : State) : (startDiscovery s).u3.t0 = s.u3.t :=
  rfl

@[simp] theorem startDiscovery_u3_wStart (s : State) : (startDiscovery s).u3.wStart = s.u3.wStart :=
  rfl

@[simp] theorem startDiscovery_u3_matchIdx (s : State) : (startDiscovery s).u3.matchIdx = s.u3.matchIdx :=
  rfl

@[simp] theorem startDiscovery_u3_sesState (s : State) : (startDiscovery s).u3.sesState = s.u3.sesState :=
  rfl

@[simp] theorem startDiscovery_u3_sesStep (s : State) : (startDiscovery s).u3.sesStep = s.u3.sesStep :=
  rfl

@[simp] theorem startDiscovery_u3_wPhase (s : State) : (startDiscovery s).u3.wPhase = s.u3.wPhase :=
  rfl

@[simp] theorem startDiscovery_u3_rxbuf (s : State) : (startDiscovery s).u3.rxbuf = s.u3.rxbuf :=
  rfl

@[simp] theorem startDiscovery_u3_sig (s : State) : (startDiscovery s).u3.sig = s.u3.sig :=
  rfl

@[simp] theorem startDiscovery_u3_kind (s : State) : (startDiscovery s).u3.kind = s.u3.kind :=
  rfl

@[simp] theorem startDiscovery_u3_expKind (s : State) : (startDiscovery s).u3.expKind = s.u3.expKind :=
  rfl

@[simp] theorem startDiscovery_u3_blockSize (s : State) : (startDiscovery s).u3.blockSize = s.u3.blockSize :=
  rfl

@[simp] theorem startDiscovery_u3_blk (s : State) : (startDiscovery s).u3.blk = s.u3.blk :=
  rfl

@[simp] theorem startDiscovery_u3_nblocks (s : State) : (startDiscovery s).u3.nblocks = s.u3.nblocks :=
  rfl

@[simp] theorem startDiscovery_u3_sesCode (s : State) : (startDiscovery s).u3.sesCode = s.u3.sesCode :=
  rfl

@[simp] theorem startDiscovery_u3_sesOp (s : State) : (startDiscovery s).u3.sesOp = s.u3.sesOp :=
  rfl

@[simp] theorem startDiscovery_u3_sesExp (s : State) : (startDiscovery s).u3.sesExp = s.u3.sesExp :=
  rfl

@[simp] theorem startDiscovery_u3_sesObs (s : State) : (startDiscovery s).u3.sesObs = s.u3.sesObs :=
  rfl

@[simp] theorem startDiscovery_u3_sesVal (s : State) : (startDiscovery s).u3.sesVal = s.u3.sesVal :=
  rfl

@[simp] theorem startDiscovery_u3_sesBlk (s : State) : (startDiscovery s).u3.sesBlk = s.u3.sesBlk :=
  rfl

@[simp] theorem startDiscovery_u3_tx (s : State) : (startDiscovery s).u3.tx = s.u3.tx :=
  rfl

/-! ## `refuseWord` -/

@[simp] theorem refuseWord_par (s : State) : (refuseWord s).par = s.par :=
  rfl

@[simp] theorem refuseWord_env (s : State) : (refuseWord s).env = s.env :=
  rfl

@[simp] theorem refuseWord_crcH (s : State) : (refuseWord s).crcH = s.crcH :=
  rfl

@[simp] theorem refuseWord_u2 (s : State) : (refuseWord s).u2 = s.u2 :=
  rfl

@[simp] theorem refuseWord_refused (s : State) : (refuseWord s).refused = true :=
  rfl

@[simp] theorem refuseWord_u3 (s : State) : (refuseWord s).u3 = s.u3 :=
  rfl

/-! ## `applyReset` -/

@[simp] theorem applyReset_par (s : State) : (applyReset s).par = s.par :=
  rfl

@[simp] theorem applyReset_env (s : State) : (applyReset s).env = s.env :=
  rfl

@[simp] theorem applyReset_crcH (s : State) : (applyReset s).crcH = 0xFFFF :=
  rfl

@[simp] theorem applyReset_u2 (s : State) : (applyReset s).u2 = hexReset :=
  rfl

@[simp] theorem applyReset_refused (s : State) : (applyReset s).refused = false :=
  rfl

@[simp] theorem applyReset_u3 (s : State) : (applyReset s).u3 = sesReset :=
  rfl

/-! ## `withEvents` -/

@[simp] theorem withEvents_par (events : List Event) (s : State) : (withEvents events s).par = s.par :=
  rfl

@[simp] theorem withEvents_crcH (events : List Event) (s : State) : (withEvents events s).crcH = s.crcH :=
  rfl

@[simp] theorem withEvents_u2 (events : List Event) (s : State) : (withEvents events s).u2 = s.u2 :=
  rfl

@[simp] theorem withEvents_u3 (events : List Event) (s : State) : (withEvents events s).u3 = s.u3 :=
  rfl

@[simp] theorem withEvents_refused (events : List Event) (s : State) : (withEvents events s).refused = s.refused :=
  rfl

@[simp] theorem withEvents_env_events (events : List Event) (s : State) : (withEvents events s).env.events = events :=
  rfl

@[simp] theorem withEvents_env_sends (events : List Event) (s : State) : (withEvents events s).env.sends = s.env.sends :=
  rfl

@[simp] theorem withEvents_env_reads (events : List Event) (s : State) : (withEvents events s).env.reads = s.env.reads :=
  rfl

@[simp] theorem withEvents_env_jitters (events : List Event) (s : State) : (withEvents events s).env.jitters = s.env.jitters :=
  rfl

@[simp] theorem withEvents_env_drawn (events : List Event) (s : State) : (withEvents events s).env.drawn = s.env.drawn :=
  rfl

@[simp] theorem withEvents_env_expectedKind (events : List Event) (s : State) : (withEvents events s).env.expectedKind = s.env.expectedKind :=
  rfl

/-! ## `setExpected` -/

@[simp] theorem setExpected_par (k : Option DeviceKind) (s : State) : (setExpected k s).par = s.par :=
  rfl

@[simp] theorem setExpected_crcH (k : Option DeviceKind) (s : State) : (setExpected k s).crcH = s.crcH :=
  rfl

@[simp] theorem setExpected_u2 (k : Option DeviceKind) (s : State) : (setExpected k s).u2 = s.u2 :=
  rfl

@[simp] theorem setExpected_u3 (k : Option DeviceKind) (s : State) : (setExpected k s).u3 = s.u3 :=
  rfl

@[simp] theorem setExpected_refused (k : Option DeviceKind) (s : State) : (setExpected k s).refused = s.refused :=
  rfl

@[simp] theorem setExpected_env_events (k : Option DeviceKind) (s : State) : (setExpected k s).env.events = s.env.events :=
  rfl

@[simp] theorem setExpected_env_sends (k : Option DeviceKind) (s : State) : (setExpected k s).env.sends = s.env.sends :=
  rfl

@[simp] theorem setExpected_env_reads (k : Option DeviceKind) (s : State) : (setExpected k s).env.reads = s.env.reads :=
  rfl

@[simp] theorem setExpected_env_jitters (k : Option DeviceKind) (s : State) : (setExpected k s).env.jitters = s.env.jitters :=
  rfl

@[simp] theorem setExpected_env_drawn (k : Option DeviceKind) (s : State) : (setExpected k s).env.drawn = s.env.drawn :=
  rfl

@[simp] theorem setExpected_env_expectedKind (k : Option DeviceKind) (s : State) : (setExpected k s).env.expectedKind = k :=
  rfl

/-! ## `drawSend`: only the environment's record changes -/

@[simp] theorem drawSend_par (s : State) : (drawSend s).2.par = s.par :=
  by unfold drawSend; split <;> rfl

@[simp] theorem drawSend_crcH (s : State) : (drawSend s).2.crcH = s.crcH :=
  by unfold drawSend; split <;> rfl

@[simp] theorem drawSend_u2 (s : State) : (drawSend s).2.u2 = s.u2 :=
  by unfold drawSend; split <;> rfl

@[simp] theorem drawSend_u3 (s : State) : (drawSend s).2.u3 = s.u3 :=
  by unfold drawSend; split <;> rfl

@[simp] theorem drawSend_refused (s : State) : (drawSend s).2.refused = s.refused :=
  by unfold drawSend; split <;> rfl

@[simp] theorem drawSend_env_events (s : State) : (drawSend s).2.env.events = s.env.events :=
  by unfold drawSend; split <;> rfl

@[simp] theorem drawSend_env_expectedKind (s : State) : (drawSend s).2.env.expectedKind = s.env.expectedKind :=
  by unfold drawSend; split <;> rfl

/-! ## `drawRead`: only the environment's record changes -/

@[simp] theorem drawRead_par (s : State) : (drawRead s).2.par = s.par :=
  by unfold drawRead; split <;> rfl

@[simp] theorem drawRead_crcH (s : State) : (drawRead s).2.crcH = s.crcH :=
  by unfold drawRead; split <;> rfl

@[simp] theorem drawRead_u2 (s : State) : (drawRead s).2.u2 = s.u2 :=
  by unfold drawRead; split <;> rfl

@[simp] theorem drawRead_u3 (s : State) : (drawRead s).2.u3 = s.u3 :=
  by unfold drawRead; split <;> rfl

@[simp] theorem drawRead_refused (s : State) : (drawRead s).2.refused = s.refused :=
  by unfold drawRead; split <;> rfl

@[simp] theorem drawRead_env_events (s : State) : (drawRead s).2.env.events = s.env.events :=
  by unfold drawRead; split <;> rfl

@[simp] theorem drawRead_env_expectedKind (s : State) : (drawRead s).2.env.expectedKind = s.env.expectedKind :=
  by unfold drawRead; split <;> rfl

/-! ## `drawJitter`: only the environment's record changes -/

@[simp] theorem drawJitter_par (s : State) : (drawJitter s).2.par = s.par :=
  by unfold drawJitter; split <;> rfl

@[simp] theorem drawJitter_crcH (s : State) : (drawJitter s).2.crcH = s.crcH :=
  by unfold drawJitter; split <;> rfl

@[simp] theorem drawJitter_u2 (s : State) : (drawJitter s).2.u2 = s.u2 :=
  by unfold drawJitter; split <;> rfl

@[simp] theorem drawJitter_u3 (s : State) : (drawJitter s).2.u3 = s.u3 :=
  by unfold drawJitter; split <;> rfl

@[simp] theorem drawJitter_refused (s : State) : (drawJitter s).2.refused = s.refused :=
  by unfold drawJitter; split <;> rfl

@[simp] theorem drawJitter_env_events (s : State) : (drawJitter s).2.env.events = s.env.events :=
  by unfold drawJitter; split <;> rfl

@[simp] theorem drawJitter_env_expectedKind (s : State) : (drawJitter s).2.env.expectedKind = s.env.expectedKind :=
  by unfold drawJitter; split <;> rfl

/-! ## `sleepFor`: only the time and the environment's record change -/

@[simp] theorem sleepFor_par (d : Nat) (s : State) : (sleepFor d s).par = s.par :=
  by simp [sleepFor]

@[simp] theorem sleepFor_crcH (d : Nat) (s : State) : (sleepFor d s).crcH = s.crcH :=
  by simp [sleepFor]

@[simp] theorem sleepFor_u2 (d : Nat) (s : State) : (sleepFor d s).u2 = s.u2 :=
  by simp [sleepFor]

@[simp] theorem sleepFor_refused (d : Nat) (s : State) : (sleepFor d s).refused = s.refused :=
  by simp [sleepFor]

@[simp] theorem sleepFor_env_events (d : Nat) (s : State) : (sleepFor d s).env.events = s.env.events :=
  by simp [sleepFor]

@[simp] theorem sleepFor_env_expectedKind (d : Nat) (s : State) : (sleepFor d s).env.expectedKind = s.env.expectedKind :=
  by simp [sleepFor]

@[simp] theorem sleepFor_u3_crcS (d : Nat) (s : State) : (sleepFor d s).u3.crcS = s.u3.crcS :=
  by simp [sleepFor]

@[simp] theorem sleepFor_u3_t (d : Nat) (s : State) : (sleepFor d s).u3.t = s.u3.t + d + (drawJitter s).1 :=
  by simp [sleepFor]

@[simp] theorem sleepFor_u3_t0 (d : Nat) (s : State) : (sleepFor d s).u3.t0 = s.u3.t0 :=
  by simp [sleepFor]

@[simp] theorem sleepFor_u3_wStart (d : Nat) (s : State) : (sleepFor d s).u3.wStart = s.u3.wStart :=
  by simp [sleepFor]

@[simp] theorem sleepFor_u3_matchIdx (d : Nat) (s : State) : (sleepFor d s).u3.matchIdx = s.u3.matchIdx :=
  by simp [sleepFor]

@[simp] theorem sleepFor_u3_sesState (d : Nat) (s : State) : (sleepFor d s).u3.sesState = s.u3.sesState :=
  by simp [sleepFor]

@[simp] theorem sleepFor_u3_sesStep (d : Nat) (s : State) : (sleepFor d s).u3.sesStep = s.u3.sesStep :=
  by simp [sleepFor]

@[simp] theorem sleepFor_u3_wPhase (d : Nat) (s : State) : (sleepFor d s).u3.wPhase = s.u3.wPhase :=
  by simp [sleepFor]

@[simp] theorem sleepFor_u3_rxbuf (d : Nat) (s : State) : (sleepFor d s).u3.rxbuf = s.u3.rxbuf :=
  by simp [sleepFor]

@[simp] theorem sleepFor_u3_sig (d : Nat) (s : State) : (sleepFor d s).u3.sig = s.u3.sig :=
  by simp [sleepFor]

@[simp] theorem sleepFor_u3_kind (d : Nat) (s : State) : (sleepFor d s).u3.kind = s.u3.kind :=
  by simp [sleepFor]

@[simp] theorem sleepFor_u3_expKind (d : Nat) (s : State) : (sleepFor d s).u3.expKind = s.u3.expKind :=
  by simp [sleepFor]

@[simp] theorem sleepFor_u3_blockSize (d : Nat) (s : State) : (sleepFor d s).u3.blockSize = s.u3.blockSize :=
  by simp [sleepFor]

@[simp] theorem sleepFor_u3_blk (d : Nat) (s : State) : (sleepFor d s).u3.blk = s.u3.blk :=
  by simp [sleepFor]

@[simp] theorem sleepFor_u3_nblocks (d : Nat) (s : State) : (sleepFor d s).u3.nblocks = s.u3.nblocks :=
  by simp [sleepFor]

@[simp] theorem sleepFor_u3_sesCode (d : Nat) (s : State) : (sleepFor d s).u3.sesCode = s.u3.sesCode :=
  by simp [sleepFor]

@[simp] theorem sleepFor_u3_sesOp (d : Nat) (s : State) : (sleepFor d s).u3.sesOp = s.u3.sesOp :=
  by simp [sleepFor]

@[simp] theorem sleepFor_u3_sesExp (d : Nat) (s : State) : (sleepFor d s).u3.sesExp = s.u3.sesExp :=
  by simp [sleepFor]

@[simp] theorem sleepFor_u3_sesObs (d : Nat) (s : State) : (sleepFor d s).u3.sesObs = s.u3.sesObs :=
  by simp [sleepFor]

@[simp] theorem sleepFor_u3_sesVal (d : Nat) (s : State) : (sleepFor d s).u3.sesVal = s.u3.sesVal :=
  by simp [sleepFor]

@[simp] theorem sleepFor_u3_sesBlk (d : Nat) (s : State) : (sleepFor d s).u3.sesBlk = s.u3.sesBlk :=
  by simp [sleepFor]

@[simp] theorem sleepFor_u3_tx (d : Nat) (s : State) : (sleepFor d s).u3.tx = s.u3.tx :=
  by simp [sleepFor]

/-! ## `withRx`: only this read's field and the environment's record change -/

@[simp] theorem withRx_par (r : List Byte) (s : State) : (withRx r s).par = s.par :=
  by simp [withRx]

@[simp] theorem withRx_crcH (r : List Byte) (s : State) : (withRx r s).crcH = s.crcH :=
  by simp [withRx]

@[simp] theorem withRx_u2 (r : List Byte) (s : State) : (withRx r s).u2 = s.u2 :=
  by simp [withRx]

@[simp] theorem withRx_refused (r : List Byte) (s : State) : (withRx r s).refused = s.refused :=
  by simp [withRx]

@[simp] theorem withRx_env_events (r : List Byte) (s : State) : (withRx r s).env.events = s.env.events :=
  by simp [withRx]

@[simp] theorem withRx_env_expectedKind (r : List Byte) (s : State) : (withRx r s).env.expectedKind = s.env.expectedKind :=
  by simp [withRx]

@[simp] theorem withRx_u3_crcS (r : List Byte) (s : State) : (withRx r s).u3.crcS = s.u3.crcS :=
  by simp [withRx]

@[simp] theorem withRx_u3_t (r : List Byte) (s : State) : (withRx r s).u3.t = s.u3.t :=
  by simp [withRx]

@[simp] theorem withRx_u3_t0 (r : List Byte) (s : State) : (withRx r s).u3.t0 = s.u3.t0 :=
  by simp [withRx]

@[simp] theorem withRx_u3_wStart (r : List Byte) (s : State) : (withRx r s).u3.wStart = s.u3.wStart :=
  by simp [withRx]

@[simp] theorem withRx_u3_matchIdx (r : List Byte) (s : State) : (withRx r s).u3.matchIdx = s.u3.matchIdx :=
  by simp [withRx]

@[simp] theorem withRx_u3_sesState (r : List Byte) (s : State) : (withRx r s).u3.sesState = s.u3.sesState :=
  by simp [withRx]

@[simp] theorem withRx_u3_sesStep (r : List Byte) (s : State) : (withRx r s).u3.sesStep = s.u3.sesStep :=
  by simp [withRx]

@[simp] theorem withRx_u3_wPhase (r : List Byte) (s : State) : (withRx r s).u3.wPhase = s.u3.wPhase :=
  by simp [withRx]

@[simp] theorem withRx_u3_rxbuf (r : List Byte) (s : State) : (withRx r s).u3.rxbuf = s.u3.rxbuf ++ r :=
  rfl

@[simp] theorem withRx_u3_sig (r : List Byte) (s : State) : (withRx r s).u3.sig = s.u3.sig :=
  by simp [withRx]

@[simp] theorem withRx_u3_kind (r : List Byte) (s : State) : (withRx r s).u3.kind = s.u3.kind :=
  by simp [withRx]

@[simp] theorem withRx_u3_expKind (r : List Byte) (s : State) : (withRx r s).u3.expKind = s.u3.expKind :=
  by simp [withRx]

@[simp] theorem withRx_u3_blockSize (r : List Byte) (s : State) : (withRx r s).u3.blockSize = s.u3.blockSize :=
  by simp [withRx]

@[simp] theorem withRx_u3_blk (r : List Byte) (s : State) : (withRx r s).u3.blk = s.u3.blk :=
  by simp [withRx]

@[simp] theorem withRx_u3_nblocks (r : List Byte) (s : State) : (withRx r s).u3.nblocks = s.u3.nblocks :=
  by simp [withRx]

@[simp] theorem withRx_u3_sesCode (r : List Byte) (s : State) : (withRx r s).u3.sesCode = s.u3.sesCode :=
  by simp [withRx]

@[simp] theorem withRx_u3_sesOp (r : List Byte) (s : State) : (withRx r s).u3.sesOp = s.u3.sesOp :=
  by simp [withRx]

@[simp] theorem withRx_u3_sesExp (r : List Byte) (s : State) : (withRx r s).u3.sesExp = s.u3.sesExp :=
  by simp [withRx]

@[simp] theorem withRx_u3_sesObs (r : List Byte) (s : State) : (withRx r s).u3.sesObs = s.u3.sesObs :=
  by simp [withRx]

@[simp] theorem withRx_u3_sesVal (r : List Byte) (s : State) : (withRx r s).u3.sesVal = s.u3.sesVal :=
  by simp [withRx]

@[simp] theorem withRx_u3_sesBlk (r : List Byte) (s : State) : (withRx r s).u3.sesBlk = s.u3.sesBlk :=
  by simp [withRx]

@[simp] theorem withRx_u3_tx (r : List Byte) (s : State) : (withRx r s).u3.tx = s.u3.tx :=
  by simp [withRx]

/-! ## `withScan`: only this read's field and the environment's record change -/

@[simp] theorem withScan_par (r : List Byte) (s : State) : (withScan r s).par = s.par :=
  by simp [withScan]

@[simp] theorem withScan_crcH (r : List Byte) (s : State) : (withScan r s).crcH = s.crcH :=
  by simp [withScan]

@[simp] theorem withScan_u2 (r : List Byte) (s : State) : (withScan r s).u2 = s.u2 :=
  by simp [withScan]

@[simp] theorem withScan_refused (r : List Byte) (s : State) : (withScan r s).refused = s.refused :=
  by simp [withScan]

@[simp] theorem withScan_env_events (r : List Byte) (s : State) : (withScan r s).env.events = s.env.events :=
  by simp [withScan]

@[simp] theorem withScan_env_expectedKind (r : List Byte) (s : State) : (withScan r s).env.expectedKind = s.env.expectedKind :=
  by simp [withScan]

@[simp] theorem withScan_u3_crcS (r : List Byte) (s : State) : (withScan r s).u3.crcS = s.u3.crcS :=
  by simp [withScan]

@[simp] theorem withScan_u3_t (r : List Byte) (s : State) : (withScan r s).u3.t = s.u3.t :=
  by simp [withScan]

@[simp] theorem withScan_u3_t0 (r : List Byte) (s : State) : (withScan r s).u3.t0 = s.u3.t0 :=
  by simp [withScan]

@[simp] theorem withScan_u3_wStart (r : List Byte) (s : State) : (withScan r s).u3.wStart = s.u3.wStart :=
  by simp [withScan]

@[simp] theorem withScan_u3_matchIdx (r : List Byte) (s : State) : (withScan r s).u3.matchIdx = (scanBytes s.par.matchRetest s.u3.matchIdx r).1 :=
  rfl

@[simp] theorem withScan_u3_sesState (r : List Byte) (s : State) : (withScan r s).u3.sesState = s.u3.sesState :=
  by simp [withScan]

@[simp] theorem withScan_u3_sesStep (r : List Byte) (s : State) : (withScan r s).u3.sesStep = s.u3.sesStep :=
  by simp [withScan]

@[simp] theorem withScan_u3_wPhase (r : List Byte) (s : State) : (withScan r s).u3.wPhase = s.u3.wPhase :=
  by simp [withScan]

@[simp] theorem withScan_u3_rxbuf (r : List Byte) (s : State) : (withScan r s).u3.rxbuf = s.u3.rxbuf :=
  by simp [withScan]

@[simp] theorem withScan_u3_sig (r : List Byte) (s : State) : (withScan r s).u3.sig = s.u3.sig :=
  by simp [withScan]

@[simp] theorem withScan_u3_kind (r : List Byte) (s : State) : (withScan r s).u3.kind = s.u3.kind :=
  by simp [withScan]

@[simp] theorem withScan_u3_expKind (r : List Byte) (s : State) : (withScan r s).u3.expKind = s.u3.expKind :=
  by simp [withScan]

@[simp] theorem withScan_u3_blockSize (r : List Byte) (s : State) : (withScan r s).u3.blockSize = s.u3.blockSize :=
  by simp [withScan]

@[simp] theorem withScan_u3_blk (r : List Byte) (s : State) : (withScan r s).u3.blk = s.u3.blk :=
  by simp [withScan]

@[simp] theorem withScan_u3_nblocks (r : List Byte) (s : State) : (withScan r s).u3.nblocks = s.u3.nblocks :=
  by simp [withScan]

@[simp] theorem withScan_u3_sesCode (r : List Byte) (s : State) : (withScan r s).u3.sesCode = s.u3.sesCode :=
  by simp [withScan]

@[simp] theorem withScan_u3_sesOp (r : List Byte) (s : State) : (withScan r s).u3.sesOp = s.u3.sesOp :=
  by simp [withScan]

@[simp] theorem withScan_u3_sesExp (r : List Byte) (s : State) : (withScan r s).u3.sesExp = s.u3.sesExp :=
  by simp [withScan]

@[simp] theorem withScan_u3_sesObs (r : List Byte) (s : State) : (withScan r s).u3.sesObs = s.u3.sesObs :=
  by simp [withScan]

@[simp] theorem withScan_u3_sesVal (r : List Byte) (s : State) : (withScan r s).u3.sesVal = s.u3.sesVal :=
  by simp [withScan]

@[simp] theorem withScan_u3_sesBlk (r : List Byte) (s : State) : (withScan r s).u3.sesBlk = s.u3.sesBlk :=
  by simp [withScan]

@[simp] theorem withScan_u3_tx (r : List Byte) (s : State) : (withScan r s).u3.tx = s.u3.tx :=
  by simp [withScan]

end Sys2Proof.Machine
end

