-- ==== Sys2Proof/Laws/Ops.lean ====
section
/-! SUPPORT. What each shared operation can do, said once. -/

namespace Sys2Proof.Machine

/-! ## u32 elements -/

/-- A number that fits 32 bits is stored exactly. -/
theorem toU32_of_lt (n : Nat) (h : n < 2 ^ 32) : toU32 n = BitVec.ofNat 32 n := if_pos h

/-- A number that fits 32 bits reads back. -/
theorem toU32_toNat (n : Nat) (h : n < 2 ^ 32) : (toU32 n).toNat = n := by
  rw [toU32_of_lt n h, BitVec.toNat_ofNat, Nat.mod_eq_of_lt h]

/-- A counter below its largest value counts one up. -/
theorem bump_toNat (x : Word32) (h : x.toNat + 1 < 2 ^ 32) : (bump x).toNat = x.toNat + 1 :=
  toU32_toNat _ h

/-! ## Send, Sleep -/

/-- A Send that draws OK: all of the message is in `tx`, and the step goes on. -/
theorem sendMsg_ok (op : SesOp) (blk : Word32) (m : List Byte) (onOk : State → State) (s : State)
    (h : (drawSend s).1 = .ok) : sendMsg op blk m onOk s = onOk (appendTx m (drawSend s).2) := by
  simp [sendMsg, h]

/-- A Send that draws IOError(p): fewer than all bytes are in `tx`, and U3 has failed. -/
theorem sendMsg_ioError (op : SesOp) (blk : Word32) (m : List Byte) (onOk : State → State) (s : State) (p : Nat)
    (h : (drawSend s).1 = .ioError p) :
    sendMsg op blk m onOk s =
      sesFail .ioFailure op (toU32 m.length) (toU32 (min p (m.length - 1))) 0 blk
        (appendTx (m.take (min p (m.length - 1))) (drawSend s).2) := by
  simp [sendMsg, h]

/-- Everything a Send can do. -/
theorem sendMsg_cases (op : SesOp) (blk : Word32) (m : List Byte) (onOk : State → State) (s : State) :
    ((drawSend s).1 = .ok ∧ sendMsg op blk m onOk s = onOk (appendTx m (drawSend s).2)) ∨
    ∃ sent, sent ≤ m.length - 1 ∧
      sendMsg op blk m onOk s =
        sesFail .ioFailure op (toU32 m.length) (toU32 sent) 0 blk (appendTx (m.take sent) (drawSend s).2) := by
  cases h : (drawSend s).1 with
  | ok => exact .inl ⟨rfl, sendMsg_ok op blk m onOk s h⟩
  | ioError p => exact .inr ⟨_, Nat.min_le_right p _, sendMsg_ioError op blk m onOk s p h⟩

/-- A draw changes the environment's record and nothing else. -/
theorem drawSend_eq (s : State) : (drawSend s).2 = { s with env := (drawSend s).2.env } := by
  unfold drawSend; split <;> rfl

/-- A draw changes the environment's record and nothing else. -/
theorem drawRead_eq (s : State) : (drawRead s).2 = { s with env := (drawRead s).2.env } := by
  unfold drawRead; split <;> rfl

/-- A draw changes the environment's record and nothing else. -/
theorem drawJitter_eq (s : State) : (drawJitter s).2 = { s with env := (drawJitter s).2.env } := by
  unfold drawJitter; split <;> rfl

/-- Everything a Sleep does. -/
theorem sleepFor_eq (d : Nat) (s : State) :
    sleepFor d s =
      { s with env := (drawJitter s).2.env, u3 := { s.u3 with t := s.u3.t + d + (drawJitter s).1 } } := by
  unfold sleepFor drawJitter
  split <;> rfl

/-- A step of U3's at which it does not stand changes nothing. -/
theorem whenAt_neg (step : SesStep) (f : State → State) (s : State) (h : ¬ atStep step s) : whenAt step f s = s :=
  if_neg h

/-- A step of U3's at which it stands is taken. -/
theorem whenAt_pos (step : SesStep) (f : State → State) (s : State) (h : atStep step s) : whenAt step f s = f s :=
  if_pos h

/-! ## The chunk -/

/-- One chunk byte, where the image cell below `total_bytes` is written and exists. -/
theorem chunkByte_ok (s : State) (a : Nat) (h : a < totalBytes s → a < s.par.imageCapacity.toNat)
    (hw : a < totalBytes s → (memRead? s.u2.image a).isSome = true) : chunkByte s a = .ok (imageByte s a) := by
  unfold chunkByte imageByte
  split
  · rename_i ha
    obtain ⟨b, hb⟩ := Option.isSome_iff_exists.1 (hw ha)
    simp [memRead, h ha, hb]
  · rfl

/-- A run of chunk bytes, where the image cells below `total_bytes` are written and exist. -/
theorem chunkFrom_ok (s : State) (h : ∀ a, a < totalBytes s → a < s.par.imageCapacity.toNat)
    (hw : ∀ a, a < totalBytes s → (memRead? s.u2.image a).isSome = true) (n a : Nat) :
    chunkFrom s a n = .ok ((List.range n).map fun i => imageByte s (a + i)) := by
  induction n generalizing a with
  | zero => rfl
  | succ n ih =>
    simp only [chunkFrom, chunkByte_ok s a (h a) (hw a), ih, List.range_succ_eq_map, List.map_cons, List.map_map]
    congr 2
    refine List.map_congr_left fun i _ => ?_
    simp [Nat.add_assoc, Nat.add_comm 1 i]

end Sys2Proof.Machine
end

