-- ==== Sys2Proof/Laws/Hex.lean ====
section
/-! SUPPORT. Everything a decoded record and a completed line can do to U2. -/

namespace Sys2Proof.Machine

/-! ## `afterDecode` and `backToSeek` -/

@[simp] theorem afterDecode_hxState (sum : Byte) (u : HexUnit) : (afterDecode sum u).hxState = u.hxState :=
  rfl

@[simp] theorem afterDecode_line (sum : Byte) (u : HexUnit) : (afterDecode sum u).line = [] :=
  rfl

@[simp] theorem afterDecode_lineNo (sum : Byte) (u : HexUnit) : (afterDecode sum u).lineNo = u.lineNo :=
  rfl

@[simp] theorem afterDecode_recIndex (sum : Byte) (u : HexUnit) : (afterDecode sum u).recIndex = u.recIndex :=
  rfl

@[simp] theorem afterDecode_curOff (sum : Byte) (u : HexUnit) : (afterDecode sum u).curOff = u.curOff :=
  rfl

@[simp] theorem afterDecode_cursor (sum : Byte) (u : HexUnit) : (afterDecode sum u).cursor = u.cursor :=
  rfl

@[simp] theorem afterDecode_image (sum : Byte) (u : HexUnit) : (afterDecode sum u).image = u.image :=
  rfl

@[simp] theorem afterDecode_cksumBad (sum : Byte) (u : HexUnit) : (afterDecode sum u).cksumBad = if sum = 0 then u.cksumBad else bump u.cksumBad :=
  rfl

@[simp] theorem afterDecode_hxCode (sum : Byte) (u : HexUnit) : (afterDecode sum u).hxCode = u.hxCode :=
  rfl

@[simp] theorem afterDecode_hxLine (sum : Byte) (u : HexUnit) : (afterDecode sum u).hxLine = u.hxLine :=
  rfl

@[simp] theorem afterDecode_hxRec (sum : Byte) (u : HexUnit) : (afterDecode sum u).hxRec = u.hxRec :=
  rfl

@[simp] theorem afterDecode_hxVal (sum : Byte) (u : HexUnit) : (afterDecode sum u).hxVal = u.hxVal :=
  rfl

@[simp] theorem afterDecode_hxExp (sum : Byte) (u : HexUnit) : (afterDecode sum u).hxExp = u.hxExp :=
  rfl

@[simp] theorem afterDecode_hxObs (sum : Byte) (u : HexUnit) : (afterDecode sum u).hxObs = u.hxObs :=
  rfl

@[simp] theorem backToSeek_hxState (u : HexUnit) :
    (backToSeek u).hxState = if u.hxState = .collect then .seek else u.hxState := by
  unfold backToSeek; split <;> rfl

@[simp] theorem backToSeek_line (u : HexUnit) : (backToSeek u).line = u.line := by
  unfold backToSeek; split <;> rfl

@[simp] theorem backToSeek_lineNo (u : HexUnit) : (backToSeek u).lineNo = u.lineNo := by
  unfold backToSeek; split <;> rfl

@[simp] theorem backToSeek_recIndex (u : HexUnit) : (backToSeek u).recIndex = u.recIndex := by
  unfold backToSeek; split <;> rfl

@[simp] theorem backToSeek_curOff (u : HexUnit) : (backToSeek u).curOff = u.curOff := by
  unfold backToSeek; split <;> rfl

@[simp] theorem backToSeek_cursor (u : HexUnit) : (backToSeek u).cursor = u.cursor := by
  unfold backToSeek; split <;> rfl

@[simp] theorem backToSeek_image (u : HexUnit) : (backToSeek u).image = u.image := by
  unfold backToSeek; split <;> rfl

@[simp] theorem backToSeek_cksumBad (u : HexUnit) : (backToSeek u).cksumBad = u.cksumBad := by
  unfold backToSeek; split <;> rfl

@[simp] theorem backToSeek_hxCode (u : HexUnit) : (backToSeek u).hxCode = u.hxCode := by
  unfold backToSeek; split <;> rfl

@[simp] theorem backToSeek_hxLine (u : HexUnit) : (backToSeek u).hxLine = u.hxLine := by
  unfold backToSeek; split <;> rfl

@[simp] theorem backToSeek_hxRec (u : HexUnit) : (backToSeek u).hxRec = u.hxRec := by
  unfold backToSeek; split <;> rfl

@[simp] theorem backToSeek_hxVal (u : HexUnit) : (backToSeek u).hxVal = u.hxVal := by
  unfold backToSeek; split <;> rfl

@[simp] theorem backToSeek_hxExp (u : HexUnit) : (backToSeek u).hxExp = u.hxExp := by
  unfold backToSeek; split <;> rfl

@[simp] theorem backToSeek_hxObs (u : HexUnit) : (backToSeek u).hxObs = u.hxObs := by
  unfold backToSeek; split <;> rfl

/-! ## Records and lines -/

/-- Everything a Data record can do (41_hex_parser.md R135, R136). -/
theorem buildData_cases (par : Params) (address : Word16) (payload : List Byte) (u : HexUnit) :
    (u.curOff.toNat + address.toNat ≠ u.cursor.toNat ∧
      buildData par address payload u =
        hexError .nonContiguousData (BitVec.ofNat 8 payload.length) u.cursor
          (toU32 (u.curOff.toNat + address.toNat)) u) ∨
    (u.curOff.toNat + address.toNat = u.cursor.toNat ∧
      par.imageCapacity.toNat < u.cursor.toNat + payload.length ∧
      buildData par address payload u =
        hexError .imageOverflow (BitVec.ofNat 8 payload.length) par.imageCapacity
          (toU32 (u.cursor.toNat + payload.length)) u) ∨
    (u.curOff.toNat + address.toNat = u.cursor.toNat ∧
      u.cursor.toNat + payload.length ≤ par.imageCapacity.toNat ∧
      buildData par address payload u =
        { u with
          image := memWriteBytes u.image u.cursor.toNat payload,
          cursor := toU32 (u.cursor.toNat + payload.length) }) := by
  unfold buildData
  by_cases h1 : u.curOff.toNat + address.toNat = u.cursor.toNat
  · by_cases h2 : par.imageCapacity.toNat < u.cursor.toNat + payload.length
    · simp [h1, h2]
    · simp [h1, h2, Nat.le_of_not_lt h2]
  · simp [h1]

/-- Everything an ExtendedAddress record can do (R137). -/
theorem buildExtAddr_cases (payload : List Byte) (u : HexUnit) :
    (payload.length < 2 ∧
      buildExtAddr payload u =
        hexError .badExtAddr (BitVec.ofNat 8 payload.length) 2 (toU32 payload.length) u) ∨
    ∃ p0 p1 rest, payload = p0 :: p1 :: rest ∧
      ((extOffset p0 p1 ≠ u.cursor ∧
          buildExtAddr payload u = hexError .nonContiguousSegment p0 u.cursor (extOffset p0 p1) u) ∨
        (extOffset p0 p1 = u.cursor ∧ buildExtAddr payload u = { u with curOff := extOffset p0 p1 })) := by
  match payload with
  | [] => exact .inl ⟨by simp, rfl⟩
  | [_] => exact .inl ⟨by simp, rfl⟩
  | p0 :: p1 :: rest =>
    refine .inr ⟨p0, p1, rest, rfl, ?_⟩
    by_cases h : extOffset p0 p1 = u.cursor
    · exact .inr ⟨h, by simp [buildExtAddr, h]⟩
    · exact .inl ⟨h, by simp [buildExtAddr, h]⟩

/-- Everything an EndOfFile record can do (R138 to R140). -/
theorem buildEof_cases (par : Params) (u : HexUnit) :
    (u.image.length ≠ u.cursor.toNat ∧
      buildEof par u = hexError .totalMismatch 0 (toU32 u.image.length) u.cursor u) ∨
    (u.image.length = u.cursor.toNat ∧ u.cursor = 0 ∧ par.allowEmptyImage = false ∧
      buildEof par u = hexError .emptyImage 0 1 0 u) ∨
    (u.image.length = u.cursor.toNat ∧ (u.cursor ≠ 0 ∨ par.allowEmptyImage = true) ∧
      buildEof par u = { u with hxState := .done }) := by
  unfold buildEof
  by_cases h1 : u.image.length = u.cursor.toNat
  · by_cases h2 : u.cursor = 0 ∧ par.allowEmptyImage = false
    · exact .inr (.inl ⟨h1, h2.1, h2.2, by rw [if_neg (not_not_intro h1), if_pos h2]⟩)
    · refine .inr (.inr ⟨h1, ?_, by rw [if_neg (not_not_intro h1), if_neg h2]⟩)
      by_cases hc : u.cursor = 0
      · exact .inr (by simpa [hc] using h2)
      · exact .inl hc
  · exact .inl ⟨h1, by rw [if_pos h1]⟩

/-- Everything ProcessLine does with a decoded record (R133, R134). -/
theorem acceptRecord_cases (par : Params) (tt : Byte) (address : Word16) (payload : List Byte) (cc : Byte)
    (build : HexUnit → HexUnit) (u : HexUnit) :
    (recordSum tt address payload cc ≠ 0 ∧ par.strictChecksum = true ∧
      acceptRecord par tt address payload cc build u =
        hexError .checksumMismatch cc ((cc - recordSum tt address payload cc).setWidth 32) (cc.setWidth 32) u) ∨
    ((recordSum tt address payload cc = 0 ∨ par.strictChecksum = false) ∧
      acceptRecord par tt address payload cc build u =
        backToSeek (build (afterDecode (recordSum tt address payload cc) u))) := by
  by_cases h : recordSum tt address payload cc ≠ 0 ∧ par.strictChecksum = true
  · exact .inl ⟨h.1, h.2, if_pos h⟩
  · refine .inr ⟨?_, if_neg h⟩
    by_cases h1 : recordSum tt address payload cc = 0
    · exact .inl h1
    · exact .inr (by simpa using fun hs => h ⟨h1, hs⟩)

/-- A completed line is a Decode error or a record that is run (R134). -/
theorem processLine_cases (par : Params) (u : HexUnit) :
    (∃ e, decodeLine par.minLineLen u.line = .error e ∧ processLine par u = raiseLineError par e u) ∨
    ∃ r, decodeLine par.minLineLen u.line = .ok r ∧ processLine par u = runRecord par r u := by
  unfold processLine
  cases h : decodeLine par.minLineLen u.line with
  | error e => exact .inl ⟨e, rfl, rfl⟩
  | ok r => exact .inr ⟨r, rfl, rfl⟩

/-- The payload of a decoded record has a one-byte length (R130). -/
theorem decodeLine_payload_length (minLen : Nat) (line : List Byte) (r : HexRecord)
    (h : decodeLine minLen line = .ok r) : r.payload.length ≤ 255 := by
  unfold decodeLine at h
  simp only at h
  split at h
  · cases h
  split at h
  · cases h
  split at h
  · rename_i bb a1 a0 tt _
    split at h
    · cases h
    split at h
    · cases h
    · cases h
      have := bb.isLt
      simp only [List.length_take]
      omega
  · cases h

/-- U2 is in ERROR after a Decode error. -/
theorem raiseLineError_hxState (par : Params) (e : LineError) (u : HexUnit) :
    (raiseLineError par e u).hxState = .error := by
  cases e <;> rfl

/-- Everything one character can do in COLLECT (R121, R122). -/
theorem collectChar_cases (par : Params) (c : Byte) (u : HexUnit) :
    (c = 0x0D ∧ collectChar par c u = processLine par u) ∨
    (c = 0x0A ∧ (processLine par u).hxState = .error ∧ collectChar par c u = processLine par u) ∨
    (c = 0x0A ∧ (processLine par u).hxState ≠ .error ∧
      collectChar par c u = { processLine par u with lineNo := bump (processLine par u).lineNo }) ∨
    (c ≠ 0x0D ∧ c ≠ 0x0A ∧ par.lineMax ≤ u.line.length ∧
      collectChar par c u = hexError .lineTooLong c (toU32 par.lineMax) (toU32 (par.lineMax + 1)) u) ∨
    (c ≠ 0x0D ∧ c ≠ 0x0A ∧ u.line.length < par.lineMax ∧
      collectChar par c u = { u with line := u.line ++ [c] }) := by
  unfold collectChar
  by_cases h1 : c = 0x0D
  · exact .inl ⟨h1, if_pos h1⟩
  · rw [if_neg h1]
    by_cases h2 : c = 0x0A
    · rw [if_pos h2]
      by_cases h3 : (processLine par u).hxState = .error
      · exact .inr (.inl ⟨h2, h3, if_pos h3⟩)
      · exact .inr (.inr (.inl ⟨h2, h3, if_neg h3⟩))
    · rw [if_neg h2]
      by_cases h3 : par.lineMax ≤ u.line.length
      · exact .inr (.inr (.inr (.inl ⟨h1, h2, h3, if_pos h3⟩)))
      · exact .inr (.inr (.inr (.inr ⟨h1, h2, Nat.lt_of_not_le h3, if_neg h3⟩)))

/-- Everything the end of the text can do while a line is collected (R124). -/
theorem hexEndUnit_collect (par : Params) (u : HexUnit) (h : u.hxState = .collect) :
    (((processLine par u).hxState = .done ∨ (processLine par u).hxState = .error) ∧
      hexEndUnit par u = processLine par u) ∨
    ((processLine par u).hxState ≠ .done ∧ (processLine par u).hxState ≠ .error ∧
      hexEndUnit par u = missingEof (processLine par u)) := by
  unfold hexEndUnit
  rw [h]
  by_cases h1 : (processLine par u).hxState = .done ∨ (processLine par u).hxState = .error
  · exact .inl ⟨h1, if_pos h1⟩
  · exact .inr ⟨fun e => h1 (.inl e), fun e => h1 (.inr e), if_neg h1⟩

end Sys2Proof.Machine
end

