-- ==== Sys2Proof/Laws/PerInstr.lean ====
section
/-! SUPPORT. What every well-formed instruction has as syntax, one lemma per constructor. -/

namespace Sys2Proof.Laws.EncodeNonempty

/-- A well-formed instruction is written with at least one byte (20_memory.md R60: no Send is empty). -/
def Statement (i : Instr) : Prop := i.wf = true → 1 ≤ (encode i).length

theorem crcInit : Statement (.crcInit) := by
  intro _
  simp [encode]

theorem crcUpdate (b : Byte) : Statement (.crcUpdate b) := by
  intro _
  simp [encode]

theorem crcResult : Statement (.crcResult) := by
  intro _
  simp [encode]

theorem hexChar (c : Byte) : Statement (.hexChar c) := by
  intro _
  simp [encode]

theorem hexEnd : Statement (.hexEnd) := by
  intro _
  simp [encode]

theorem sesStart : Statement (.sesStart) := by
  intro _
  simp [encode]

theorem recData (address : Word16) (payload : List Byte) (cc : Byte) : Statement (.recData address payload cc) := by
  intro _
  simp [encode, encodeLine]

theorem recEof (address : Word16) (payload : List Byte) (cc : Byte) : Statement (.recEof address payload cc) := by
  intro _
  simp [encode, encodeLine]

theorem recExtAddr (address : Word16) (payload : List Byte) (cc : Byte) : Statement (.recExtAddr address payload cc) := by
  intro _
  simp [encode, encodeLine]

theorem recUnsupported (tt : Byte) (address : Word16) (payload : List Byte) (cc : Byte) : Statement (.recUnsupported tt address payload cc) := by
  intro _
  simp [encode, encodeLine]

theorem txResetFrame : Statement (.txResetFrame) := by
  intro _
  simp [encode, resetFrame]

theorem txPing1 : Statement (.txPing1) := by
  intro _
  simp [encode]

theorem txPing2 : Statement (.txPing2) := by
  intro _
  simp [encode]

theorem txReadSig : Statement (.txReadSig) := by
  intro _
  simp [encode]

theorem txSetDev (sig : Byte) : Statement (.txSetDev sig) := by
  intro _
  simp [encode]

theorem txReadVer : Statement (.txReadVer) := by
  intro _
  simp [encode]

theorem txReadBsize : Statement (.txReadBsize) := by
  intro _
  simp [encode]

theorem txEraseSize (size : BitVec 24) : Statement (.txEraseSize size) := by
  intro _
  simp [encode]

theorem txErase : Statement (.txErase) := by
  intro _
  simp [encode]

theorem txSetAddr : Statement (.txSetAddr) := by
  intro _
  simp [encode]

theorem txBlock (part : BlockPart) : Statement (.txBlock part) := by
  intro h
  cases part with
  | header bs => simp [encode]
  | data chunk =>
    simp only [Instr.wf, BlockPart.wf, Bool.and_eq_true, decide_eq_true_eq] at h
    exact h.1
  | crc c => simp [encode, be16]

theorem txExit : Statement (.txExit) := by
  intro _
  simp [encode]

theorem rxIdent : Statement (.rxIdent) := by
  intro _
  simp [encode, identBytes]

theorem rxSigReply (s0 : Byte) (s1 : Byte) : Statement (.rxSigReply s0 s1) := by
  intro _
  simp [encode]

theorem rxOk : Statement (.rxOk) := by
  intro _
  simp [encode]

theorem rxVerReply (content : List Byte) : Statement (.rxVerReply content) := by
  intro h
  simpa [Instr.wf, encode] using h

theorem rxBsizeReply (hi : Byte) (lo : Byte) : Statement (.rxBsizeReply hi lo) := by
  intro _
  simp [encode]

end Sys2Proof.Laws.EncodeNonempty
end

