-- ==== Sys2Proof/Laws/Session.lean ====
section
/-! SUPPORT. Everything a read step of U3, an accepted reply and a block part can do, said once. -/

namespace Sys2Proof.Machine

/-! ## Messages with a check or an operand of their own -/

/-- Everything the step XSIZE_SEND can do (42_session.md R175). -/
theorem sendEraseSize_cases (size : BitVec 24) (s : State) :
    (0xFFFFFF < totalBytes s ∧
      sendEraseSize size s = sesFail .eraseSizeRange .xsize 0xFFFFFF (toU32 (totalBytes s)) 0 0 s) ∨
    (totalBytes s ≤ 0xFFFFFF ∧
      sendEraseSize size s = sendMsg .xsize 0 (encode (.txEraseSize size)) (startWait .xsizeWait) s) := by
  by_cases h : 0xFFFFFF < totalBytes s
  · exact .inl ⟨h, if_pos h⟩
  · exact .inr ⟨Nat.le_of_not_lt h, if_neg h⟩

/-- Everything the step BLK_CRC can do (43_block_transfer.md R205, R206). -/
theorem sendBlockCrc_cases (c : Word16) (s : State) :
    (∃ f, chunk s s.u3.blk.toNat = .error f ∧ sendBlockCrc c s = .fault f) ∨
    ∃ bytes, chunk s s.u3.blk.toNat = .ok bytes ∧
      sendBlockCrc c s =
        .next
          (sendMsg .block s.u3.blk (encode (.txBlock (.crc c))) (startWait .blkWait)
            { s with u3 := { s.u3 with crcS := crcOf s.par bytes } }) := by
  unfold sendBlockCrc
  cases h : chunk s s.u3.blk.toNat with
  | error f => exact .inl ⟨f, rfl, rfl⟩
  | ok bytes => exact .inr ⟨bytes, rfl, rfl⟩

/-! ## Accepted replies -/

/-- Everything an accepted signature reply can do (42_session.md R170, R171). -/
theorem acceptSignature_cases (s0 : Byte) (s : State) :
    (sigKind s.par.sigTable s0 = none ∧
      acceptSignature s0 s =
        sesFail .unknownSignature .sig 2 2 s0 0 { s with u3 := { s.u3 with sig := s0, kind := none } }) ∨
    ∃ k, sigKind s.par.sigTable s0 = some k ∧
      ((s.u3.expKind ≠ none ∧ s.u3.expKind ≠ some k ∧
          acceptSignature s0 s =
            sesFail .identityMismatch .sig 0 0 s0 0 { s with u3 := { s.u3 with sig := s0, kind := some k } }) ∨
        ((s.u3.expKind = none ∨ s.u3.expKind = some k) ∧
          acceptSignature s0 s =
            goStage .deviceConfigured .setdevSend { s with u3 := { s.u3 with sig := s0, kind := some k } })) := by
  unfold acceptSignature
  cases h : sigKind s.par.sigTable s0 with
  | none => exact .inl ⟨rfl, rfl⟩
  | some k =>
    refine .inr ⟨k, rfl, ?_⟩
    by_cases h1 : s.u3.expKind ≠ none ∧ s.u3.expKind ≠ some k
    · exact .inl ⟨h1.1, h1.2, if_pos h1⟩
    · refine .inr ⟨?_, if_neg h1⟩
      by_cases h2 : s.u3.expKind = none
      · exact .inl h2
      · exact .inr (by simpa using fun e => h1 ⟨h2, e⟩)

/-- Everything an accepted `'A'` acknowledgement can do (43_block_transfer.md R200, R201). -/
theorem acceptAddress_cases (s : State) :
    (s.u3.blockSize = 0 ∧ acceptAddress s = .fault .blockCountUndefined) ∨
    ∃ n, n = blockCount (totalBytes s) s.u3.blockSize.toNat ∧ s.u3.blockSize ≠ 0 ∧
      ((0 < n ∧
          acceptAddress s = .next (goStep .blkHdr { s with u3 := { s.u3 with nblocks := toU32 n, blk := 0 } })) ∨
        (n = 0 ∧
          acceptAddress s =
            .next (goStage .complete .exitSend { s with u3 := { s.u3 with nblocks := toU32 n, blk := 0 } }))) := by
  by_cases h : s.u3.blockSize = 0
  · exact .inl ⟨h, if_pos h⟩
  · refine .inr ⟨_, rfl, h, ?_⟩
    unfold acceptAddress
    rw [if_neg h]
    by_cases h1 : 0 < blockCount (totalBytes s) s.u3.blockSize.toNat
    · exact .inl ⟨h1, by simp only [if_pos h1]⟩
    · exact .inr ⟨Nat.eq_zero_of_not_pos h1, by simp only [if_neg h1]⟩

/-- Everything an accepted block acknowledgement can do (R207). -/
theorem acceptBlock_cases (s : State) :
    (bump s.u3.blk < s.u3.nblocks ∧
      acceptBlock s = goStep .blkHdr { s with u3 := { s.u3 with blk := bump s.u3.blk } }) ∨
    (¬ bump s.u3.blk < s.u3.nblocks ∧
      acceptBlock s = goStage .complete .exitSend { s with u3 := { s.u3 with blk := bump s.u3.blk } }) := by
  by_cases h : bump s.u3.blk < s.u3.nblocks
  · exact .inl ⟨h, if_pos h⟩
  · exact .inr ⟨h, if_neg h⟩

/-- Everything an accepted block-size reply can do (42_session.md R174). -/
theorem acceptBlockSize_cases (bs : Word16) (s : State) :
    (bs = 0 ∧ acceptBlockSize bs s = .next (sesFail .zeroBlockSize .bsize 3 3 0x00 0 s)) ∨
    (bs ≠ 0 ∧ s.u3.kind = none ∧ acceptBlockSize bs s = .fault .noDeviceKind) ∨
    ∃ k, bs ≠ 0 ∧ s.u3.kind = some k ∧
      acceptBlockSize bs s =
        .next
          (goStage .flashCleared (if needsEraseSize s.par k = true then .xsizeSend else .eraseSend)
            { s with u3 := { s.u3 with blockSize := bs } }) := by
  unfold acceptBlockSize
  by_cases h : bs = 0
  · exact .inl ⟨h, if_pos h⟩
  · rw [if_neg h]
    cases hk : s.u3.kind with
    | none => exact .inr (.inl ⟨h, rfl, rfl⟩)
    | some k => exact .inr (.inr ⟨k, h, rfl, rfl⟩)

/-! ## Read steps -/

/-- Everything the READ phase of a wait can do (R164). -/
theorem waitRead_cases (w : WaitSpec) (s : State) :
    ((drawRead s).1 = .ioError ∧
      waitRead w s =
        .settled
          (sesFail .ioFailure w.op (toU32 w.len) (toU32 s.u3.rxbuf.length) 0 (waitBlk s) (drawRead s).2)) ∨
    ∃ r, (drawRead s).1 = .bytes r ∧
      ((w.len < (s.u3.rxbuf ++ r).length ∧
          waitRead w s =
            .settled
              (sesFail .responseTooLong w.op (toU32 w.len) (toU32 (s.u3.rxbuf ++ r).length) 0 (waitBlk s)
                (withRx r s))) ∨
        ((s.u3.rxbuf ++ r).length = w.len ∧
          ((∃ i, decodeRx s.par.vRespLen w.kind (s.u3.rxbuf ++ r) = .ok i ∧ waitRead w s = .reply i (withRx r s)) ∨
            ∃ e, decodeRx s.par.vRespLen w.kind (s.u3.rxbuf ++ r) = .error e ∧
              waitRead w s = .settled (replyFail w e (withRx r s)))) ∨
        ((s.u3.rxbuf ++ r).length < w.len ∧ s.u3.wStart + w.timeout ≤ s.u3.t ∧
          waitRead w s =
            .settled
              (sesFail .responseTimeout w.op (toU32 w.len) (toU32 (s.u3.rxbuf ++ r).length) 0 (waitBlk s)
                (withRx r s))) ∨
        ((s.u3.rxbuf ++ r).length < w.len ∧ s.u3.t < s.u3.wStart + w.timeout ∧
          waitRead w s = .settled (toSleep (withRx r s)))) := by
  unfold waitRead
  cases hd : (drawRead s).1 with
  | ioError => exact .inl ⟨rfl, rfl⟩
  | bytes r =>
    refine .inr ⟨r, rfl, ?_⟩
    dsimp only
    by_cases h1 : w.len < (s.u3.rxbuf ++ r).length
    · exact .inl ⟨h1, by rw [if_pos h1]⟩
    · rw [if_neg h1]
      by_cases h2 : w.len ≤ (s.u3.rxbuf ++ r).length
      · rw [if_pos h2]
        refine .inr (.inl ⟨Nat.le_antisymm (Nat.le_of_not_lt h1) h2, ?_⟩)
        cases hx : decodeRx s.par.vRespLen w.kind (s.u3.rxbuf ++ r) with
        | ok i => exact .inl ⟨i, rfl, rfl⟩
        | error e => exact .inr ⟨e, rfl, rfl⟩
      · rw [if_neg h2]
        by_cases h3 : s.u3.wStart + w.timeout ≤ s.u3.t
        · exact .inr (.inr (.inl ⟨Nat.lt_of_not_le h2, h3, by rw [if_pos h3]⟩))
        · exact .inr (.inr (.inr ⟨Nat.lt_of_not_le h2, Nat.lt_of_not_le h3, by rw [if_neg h3]⟩))

/-- Everything a scan point can do (R166 to R168). -/
theorem scanRead_cases (again : SesStep) (s : State) :
    ((drawRead s).1 = .ioError ∧
      scanRead again s =
        .settled (sesFail .ioFailure .discovery 4 (toU32 s.u3.matchIdx) 0 0 (drawRead s).2)) ∨
    ∃ r, (drawRead s).1 = .bytes r ∧
      (((scanBytes s.par.matchRetest s.u3.matchIdx r).2 = true ∧ scanRead again s = .reply .rxIdent (withScan r s)) ∨
        ((scanBytes s.par.matchRetest s.u3.matchIdx r).2 = false ∧ s.u3.t0 + s.par.tDiscovery ≤ s.u3.t ∧
          scanRead again s =
            .settled
              (sesFail .discoveryTimeout .discovery 4 (toU32 (scanBytes s.par.matchRetest s.u3.matchIdx r).1) 0 0
                (withScan r s))) ∨
        ((scanBytes s.par.matchRetest s.u3.matchIdx r).2 = false ∧ s.u3.t < s.u3.t0 + s.par.tDiscovery ∧
          scanRead again s = .settled (goStep again (withScan r s)))) := by
  unfold scanRead
  cases hd : (drawRead s).1 with
  | ioError => exact .inl ⟨rfl, rfl⟩
  | bytes r =>
    refine .inr ⟨r, rfl, ?_⟩
    dsimp only
    by_cases h1 : (scanBytes s.par.matchRetest s.u3.matchIdx r).2 = true
    · exact .inl ⟨h1, if_pos h1⟩
    · have h1' := Bool.eq_false_iff.2 h1
      rw [if_neg h1]
      by_cases h2 : s.u3.t0 + s.par.tDiscovery ≤ s.u3.t
      · exact .inr (.inl ⟨h1', h2, if_pos h2⟩)
      · exact .inr (.inr ⟨h1', Nat.lt_of_not_le h2, if_neg h2⟩)

/-! ## The matcher -/

/-- A matcher that has seen all of "MKBL" stands at 4 (R167). -/
theorem scanBytes_found (retest : Bool) (r : List Byte) (idx : Nat) (h : (scanBytes retest idx r).2 = true) :
    (scanBytes retest idx r).1 = 4 := by
  induction r generalizing idx with
  | nil => cases h
  | cons x rest ih =>
    simp only [scanBytes] at h ⊢
    split at h
    · rename_i hx
      rw [if_pos hx]
      split at h
      · rename_i hi; rw [if_pos hi]
      · rename_i hi; rw [if_neg hi]; exact ih _ h
    · rename_i hx
      rw [if_neg hx]
      exact ih _ h

/-- A matcher that has not stays below 4 (R167). -/
theorem scanBytes_lt (retest : Bool) (r : List Byte) (idx : Nat) (hi : idx < 4)
    (h : (scanBytes retest idx r).2 = false) : (scanBytes retest idx r).1 < 4 := by
  induction r generalizing idx with
  | nil => exact hi
  | cons x rest ih =>
    simp only [scanBytes] at h ⊢
    split at h
    · rename_i hx
      rw [if_pos hx]
      split at h
      · cases h
      · rename_i h4; rw [if_neg h4]; exact ih _ (by omega) h
    · rename_i hx
      rw [if_neg hx]
      exact ih _ (by split <;> omega) h

/-! ## The chunk of a block -/

/-- Under the image invariant a chunk is the image's bytes, padded (43_block_transfer.md R202). -/
theorem chunk_ok (s : State) (h : imageInv s) (k : Nat) : chunk s k = .ok (chunkOf s k) := by
  refine chunkFrom_ok s (fun a ha => ?_) (fun a ha => ?_) _ _
  · have := h.2; unfold totalBytes at ha; omega
  · rw [memRead?_isSome, h.1]; simpa [totalBytes] using ha

end Sys2Proof.Machine
end

