-- ==== Sys2Proof/Tests/Slice0.lean ====
section
/-! SUPPORT. The model's own tests: ill-formed terms that WellFormed refuses, every constructor decoded from a word written
out from the spec's encoding tables, the spec's worked examples as single steps, and for every obligation with hypotheses
a state that meets them. -/

namespace Sys2Proof.Tests

open Sys2Proof Sys2Proof.Machine

/-! ## Helpers -/

def kindA : DeviceKind := ⟨1⟩
def kindB : DeviceKind := ⟨2⟩

/-- Instance I1 of 40_crc.md, with the other OPEN rows chosen for the tests. -/
def par : Params where
  crcPoly := 0x1021
  crcIters := 16
  minLineLen := 11
  lineMax := 521
  strictChecksum := false
  allowEmptyImage := false
  imageCapacity := 0x1100EE
  padByte := 0x00
  tSettle := 100
  tDiscovery := 10000
  tPing1 := 20
  tPing2 := 80
  tPoll := 10
  tResp := 500
  tErase := 5000
  matchRetest := false
  sigTable := [(0xE0, kindA), (0xE1, kindB)]
  eraseKinds := [kindA]
  vRespLen := 2

def parStrict : Params := { par with strictChecksum := true }

/-- Eight iterations, for the comparison of 40_crc.md R105. -/
def par8 : Params := { par with crcIters := 8, crcIters_pos := by decide }

def base : State where
  par := par
  env := envReset
  crcH := 0xFFFF
  u2 := hexReset
  u3 := sesReset
  refused := false

/-- The 10-byte image of 43_block_transfer.md. -/
def image10 : Memory := (List.range 10).map fun i => (i, BitVec.ofNat 8 i)

/-- U2 is DONE over the 10-byte image. -/
def doneUnit : HexUnit := { hexReset with hxState := .done, cursor := 10, image := image10 }

/-- U2 has collected a line. -/
def collecting (line : List Byte) : State :=
  { base with u2 := { hexReset with hxState := .collect, line := line, recIndex := 1 } }

/-- A collected line over the 10-byte image, whose EOF has not been seen. -/
def collecting10 (line : List Byte) : State :=
  { base with u2 := { doneUnit with hxState := .collect, line := line, recIndex := 2 } }

/-- U3 stands at a step of a session with the 10-byte image, block size 4 and a kind that needs the erase size, and has
the turn; the coming Send draws OK, the coming Sleep no jitter. -/
def sesAt (at_ : SesStep) : State :=
  { base with
    env := { envReset with events := [.u3], sends := [.ok], jitters := [0] }
    u2 := doneUnit
    u3 :=
      { sesReset with
        sesState := stepStage at_, sesStep := at_, sig := 0xE0, kind := some kindA, blockSize := 4, nblocks := 3 } }

/-- The same, about to read these bytes. -/
def reading (at_ : SesStep) (bytes : List Byte) : State :=
  { sesAt at_ with
    env := { (sesAt at_).env with reads := [.bytes bytes] }
    u3 := { (sesAt at_).u3 with wPhase := .read } }

/-- The coming Send, or the coming read, fails. -/
def broken (at_ : SesStep) : State :=
  { sesAt at_ with
    env := { (sesAt at_).env with sends := [.ioError 0], reads := [.ioError] }
    u3 := { (sesAt at_).u3 with wPhase := .read } }

/-- A control word is the next move. -/
def withWord (w : Word16) (s : State) : State := { s with env := { s.env with events := [.word w] } }

def next? (o : Host.Outcome State Fault Refusal) : Option State :=
  match o with
  | .next s => some s
  | .fault _ => none
  | .refused _ => none

/-- U2 after one step. -/
def u2After (s : State) : Option HexUnit := (next? (step s)).map (·.u2)

/-- What U3 has sent and where it stands after one step. -/
def u3After (s : State) : Option (List Byte × SesState × SesStep) :=
  (next? (step s)).map fun t => (t.u3.tx, t.u3.sesState, t.u3.sesStep)

/-! ## WellFormed refuses what no encoding can write -/

theorem test_wf_payload_too_long : (Instr.recData 0 (List.replicate 256 0) 0).wf = false := by decide +kernel
theorem test_wf_eof_payload_too_long : (Instr.recEof 0 (List.replicate 256 0) 0).wf = false := by decide +kernel
theorem test_wf_ext_payload_too_long : (Instr.recExtAddr 0 (List.replicate 256 0) 0).wf = false := by decide +kernel
theorem test_wf_supported_type : (Instr.recUnsupported 0x02 0 [] 0).wf = false := by decide
theorem test_wf_unsupported_payload_too_long : (Instr.recUnsupported 0x03 0 (List.replicate 256 0) 0).wf = false := by
  decide +kernel
theorem test_wf_empty_chunk : (Instr.txBlock (.data [])).wf = false := by decide
theorem test_wf_chunk_too_long : (Instr.txBlock (.data (List.replicate 0x10000 0))).wf = false := by
  simp only [Instr.wf, BlockPart.wf, List.length_replicate]
  decide
theorem test_wf_empty_version : (Instr.rxVerReply []).wf = false := by decide

/-! ## Decoding words written out from 30_encoding.md -/

theorem test_decode_crc_init : decodeCw 0x0100 = .ok .crcInit := by decide
theorem test_decode_crc_update : decodeCw 0x0231 = .ok (.crcUpdate 0x31) := by decide
theorem test_decode_crc_result : decodeCw 0x0300 = .ok .crcResult := by decide
theorem test_decode_hex_char : decodeCw 0x103A = .ok (.hexChar 0x3A) := by decide
theorem test_decode_hex_end : decodeCw 0x1100 = .ok .hexEnd := by decide
theorem test_decode_ses_start : decodeCw 0x2000 = .ok .sesStart := by decide
theorem test_decode_reserved_op : decodeCw 0x0400 = .error (.reservedOp 0x04) := by decide
theorem test_decode_reserved_data : decodeCw 0x0101 = .error (.reservedData 0x01 0x01) := by decide

/-- `:0400000001020304F2` (41_hex_parser.md R135). -/
def lineData : List Byte :=
  [0x3A, 0x30, 0x34, 0x30, 0x30, 0x30, 0x30, 0x30, 0x30, 0x30, 0x31, 0x30, 0x32, 0x30, 0x33, 0x30, 0x34, 0x46, 0x32]
/-- `:00000001FF` (R138). -/
def lineEof : List Byte := [0x3A, 0x30, 0x30, 0x30, 0x30, 0x30, 0x30, 0x30, 0x31, 0x46, 0x46]
/-- `:020000021000EC` (R137). -/
def lineExt : List Byte :=
  [0x3A, 0x30, 0x32, 0x30, 0x30, 0x30, 0x30, 0x30, 0x32, 0x31, 0x30, 0x30, 0x30, 0x45, 0x43]
/-- `:020000040000FA` (R141). -/
def lineLinear : List Byte :=
  [0x3A, 0x30, 0x32, 0x30, 0x30, 0x30, 0x30, 0x30, 0x34, 0x30, 0x30, 0x30, 0x30, 0x46, 0x41]
/-- `:0100000000FE` (R133): its checksum should be FF. -/
def lineBadSum : List Byte := [0x3A, 0x30, 0x31, 0x30, 0x30, 0x30, 0x30, 0x30, 0x30, 0x30, 0x30, 0x46, 0x45]

theorem test_decode_data : decode par .hexLine lineData = .ok (.recData 0x0000 [0x01, 0x02, 0x03, 0x04] 0xF2) := by
  decide
theorem test_decode_eof : decode par .hexLine lineEof = .ok (.recEof 0x0000 [] 0xFF) := by decide
theorem test_decode_ext : decode par .hexLine lineExt = .ok (.recExtAddr 0x0000 [0x10, 0x00] 0xEC) := by decide
theorem test_decode_unsupported :
    decode par .hexLine lineLinear = .ok (.recUnsupported 0x04 0x0000 [0x00, 0x00] 0xFA) := by decide

theorem test_decode_reset_frame :
    decode par .tx [0x23, 0x61, 0x52, 0x40, 0x53, 0x0D, 0x0D, 0x0D] = .ok .txResetFrame := by decide
theorem test_decode_ping1 : decode par .tx [0x1B] = .ok .txPing1 := by decide
theorem test_decode_ping2 : decode par .tx [0xAA] = .ok .txPing2 := by decide
theorem test_decode_read_sig : decode par .tx [0x74] = .ok .txReadSig := by decide
theorem test_decode_set_dev : decode par .tx [0x54, 0xE0] = .ok (.txSetDev 0xE0) := by decide
theorem test_decode_read_ver : decode par .tx [0x56] = .ok .txReadVer := by decide
theorem test_decode_read_bsize : decode par .tx [0x62] = .ok .txReadBsize := by decide
theorem test_decode_erase_size : decode par .tx [0x58, 0x01, 0x02, 0x0A] = .ok (.txEraseSize 0x01020A) := by decide
theorem test_decode_erase : decode par .tx [0x65] = .ok .txErase := by decide
theorem test_decode_set_addr : decode par .tx [0x41, 0x00, 0x00] = .ok .txSetAddr := by decide
theorem test_decode_block_header : decode par .tx [0x42, 0x01, 0x04, 0x46] = .ok (.txBlock (.header 0x0104)) := by decide
theorem test_decode_block_data : decode par (.txChunk 2) [0x08, 0x09] = .ok (.txBlock (.data [0x08, 0x09])) := by decide
theorem test_decode_block_crc : decode par .txCrc [0xCC, 0xA5] = .ok (.txBlock (.crc 0xCCA5)) := by decide
theorem test_decode_exit : decode par .tx [0x45] = .ok .txExit := by decide
theorem test_decode_no_message : decode par .tx [0x70] = .error (.tx (.noMessage [0x70])) := by decide

theorem test_decode_ident : decode par (.rx .ident) [0x4D, 0x4B, 0x42, 0x4C] = .ok .rxIdent := by decide
theorem test_decode_sig_reply : decode par (.rx .sig) [0xE0, 0x01] = .ok (.rxSigReply 0xE0 0x01) := by decide
theorem test_decode_ok : decode par (.rx .ok) [0x0D] = .ok .rxOk := by decide
theorem test_decode_not_ok : decode par (.rx .ok) [0x3F] = .error (.reply (.notOk 0x3F)) := by decide
theorem test_decode_ver_reply : decode par (.rx .ver) [0x31, 0x30] = .ok (.rxVerReply [0x31, 0x30]) := by decide
theorem test_decode_bsize_reply : decode par (.rx .bsize) [0x59, 0x00, 0x80] = .ok (.rxBsizeReply 0x00 0x80) := by decide
theorem test_decode_bad_marker : decode par (.rx .bsize) [0x00, 0x00, 0x00] = .error (.reply (.badMarker 0x00)) := by
  decide

/-! ## One step: the spec's worked examples -/

/-- 40_crc.md R100: crc_h = 0x1234; CRC.INIT. -/
theorem test_crc_init : (next? (step (withWord 0x0100 { base with crcH := 0x1234 }))).map (·.crcH) = some 0xFFFF := by
  decide
/-- R101: CRC.UPDATE 0x31 under I1. -/
theorem test_crc_update : (next? (step (withWord 0x0231 base))).map (·.crcH) = some 0x2BAB := by decide +kernel
/-- R102. -/
theorem test_crc_result : wordResult .crcResult { base with crcH := 0x4D64 } = some 0x4D64 := by decide
/-- R105: "123456789" with 16 iterations. -/
theorem test_crc_16 : crcOf par [0x31, 0x32, 0x33, 0x34, 0x35, 0x36, 0x37, 0x38, 0x39] = 0x4D64 := by decide +kernel
/-- R105: "123456789" with 8 iterations. -/
theorem test_crc_8 : crcOf par8 [0x31, 0x32, 0x33, 0x34, 0x35, 0x36, 0x37, 0x38, 0x39] = 0x29B1 := by decide +kernel

/-- 41_hex_parser.md R120: LF in SEEK. -/
theorem test_hex_char_lf : (u2After (withWord 0x100A base)).map (·.lineNo) = some 2 := by decide
/-- R121: a digit in COLLECT. -/
theorem test_hex_char_digit :
    (u2After (withWord 0x1030 (collecting [0x3A, 0x31, 0x30]))).map (·.line) = some [0x3A, 0x31, 0x30, 0x30] := by decide
/-- R124: no EOF record was seen. -/
theorem test_hex_end_missing : (u2After (withWord 0x1100 base)).map (·.hxCode) = some .missingEof := by decide
/-- R124: a final EOF record without a terminator is accepted. -/
theorem test_hex_end_eof : (u2After (withWord 0x1100 (collecting10 lineEof))).map (·.hxState) = some .done := by
  decide +kernel

/-- R135: four bytes at 0 to 3. -/
theorem test_rec_data :
    (u2After (withWord 0x100D (collecting lineData))).map (fun u => (u.image, u.cursor, u.hxState, u.cksumBad)) =
      some ([(0, 0x01), (1, 0x02), (2, 0x03), (3, 0x04)], 4, .seek, 0) := by decide +kernel
/-- R135, R238: the same record over a cursor of 10 overlaps. -/
theorem test_rec_data_gap :
    (u2After (withWord 0x100D (collecting10 lineData))).map (fun u => (u.hxCode, u.hxVal, u.hxExp, u.hxObs)) =
      some (.nonContiguousData, 0x04, 10, 0) := by decide +kernel
/-- R137: cursor = 0x10000. -/
theorem test_rec_ext :
    (u2After
      (withWord 0x100D { base with u2 := { (collecting lineExt).u2 with cursor := 0x10000 } })).map (·.curOff) =
      some 0x10000 := by decide +kernel
/-- R137, R239: cursor = 0. -/
theorem test_rec_ext_gap :
    (u2After (withWord 0x100D (collecting lineExt))).map (fun u => (u.hxCode, u.hxVal, u.hxExp, u.hxObs)) =
      some (.nonContiguousSegment, 0x10, 0, 0x10000) := by decide +kernel
/-- R138: DONE, and the LF is counted (R122). -/
theorem test_rec_eof :
    (u2After (withWord 0x100A (collecting10 lineEof))).map (fun u => (u.hxState, u.cursor, u.lineNo)) =
      some (.done, 10, 2) := by decide +kernel
/-- R140: an empty image. -/
theorem test_rec_eof_empty : (u2After (withWord 0x100D (collecting lineEof))).map (·.hxCode) = some .emptyImage := by
  decide +kernel
/-- R141: type 04; the error keeps line 1 although the terminator is LF (R231). -/
theorem test_rec_unsupported :
    (u2After (withWord 0x100A (collecting lineLinear))).map (fun u => (u.hxCode, u.hxVal, u.lineNo)) =
      some (.unsupportedRecord, 0x04, 1) := by decide +kernel
/-- R133: a bad checksum is counted and the record used. -/
theorem test_checksum_lenient :
    (u2After (withWord 0x100D (collecting lineBadSum))).map (fun u => (u.cksumBad, u.cursor)) = some (1, 1) := by
  decide +kernel
/-- R133: in strict mode it is CHECKSUM_MISMATCH with exp = 0xFF and obs = 0xFE. -/
theorem test_checksum_strict :
    (u2After (withWord 0x100D { collecting lineBadSum with par := parStrict })).map
      (fun u => (u.hxCode, u.hxVal, u.hxExp, u.hxObs)) = some (.checksumMismatch, 0xFE, 0xFF, 0xFE) := by decide +kernel

/-- 42_session.md R160. -/
theorem test_start :
    u3After (withWord 0x2000 { base with u2 := doneUnit }) = some ([], .discovering, .dReset) := by decide
/-- R160, R255: hx_state = SEEK. -/
theorem test_start_no_image :
    (next? (step (withWord 0x2000 base))).map (fun t => (t.u3.sesCode, t.u3.sesOp, t.u3.sesVal)) =
      some (.noImage, .start, 0) := by decide
/-- R165. -/
theorem test_reset_frame :
    u3After (sesAt .dReset) = some ([0x23, 0x61, 0x52, 0x40, 0x53, 0x0D, 0x0D, 0x0D], .discovering, .dSettle) := by
  decide
/-- R166. -/
theorem test_ping1 : u3After (sesAt .dPing1) = some ([0x1B], .discovering, .dGap1) := by decide
theorem test_ping2 : u3After (sesAt .dPing2) = some ([0xAA], .discovering, .dGap2) := by decide
/-- R169. -/
theorem test_read_sig : u3After (sesAt .sigSend) = some ([0x74], .signatureExchange, .sigWait) := by decide
/-- R172. -/
theorem test_set_dev : u3After (sesAt .setdevSend) = some ([0x54, 0xE0], .deviceConfigured, .setdevWait) := by decide
/-- R173. -/
theorem test_read_ver : u3After (sesAt .verSend) = some ([0x56], .deviceConfigured, .verWait) := by decide
/-- R174. -/
theorem test_read_bsize : u3After (sesAt .bsizeSend) = some ([0x62], .deviceConfigured, .bsizeWait) := by decide
/-- R175: total_bytes = 10. -/
theorem test_erase_size : u3After (sesAt .xsizeSend) = some ([0x58, 0x00, 0x00, 0x0A], .flashCleared, .xsizeWait) := by
  decide
/-- R176. -/
theorem test_erase : u3After (sesAt .eraseSend) = some ([0x65], .flashCleared, .eraseWait) := by decide
/-- 43_block_transfer.md R200. -/
theorem test_set_addr : u3After (sesAt .addrSend) = some ([0x41, 0x00, 0x00], .transferring, .addrWait) := by decide
/-- R203: block_size = 4. -/
theorem test_block_header : u3After (sesAt .blkHdr) = some ([0x42, 0x00, 0x04, 0x46], .transferring, .blkData) := by
  decide
/-- R204: block 2 of the 10-byte image. -/
theorem test_block_data :
    u3After { sesAt .blkData with u3 := { (sesAt .blkData).u3 with blk := 2 } } =
      some ([0x08, 0x09, 0x00, 0x00], .transferring, .blkCrc) := by decide +kernel
/-- R206: block 0 of the 10-byte image under I1. -/
theorem test_block_crc : u3After (sesAt .blkCrc) = some ([0xCC, 0xA5], .transferring, .blkWait) := by decide +kernel
/-- R210. -/
theorem test_exit : u3After (sesAt .exitSend) = some ([0x45], .complete, .stepEnd) := by decide

/-- R167: the rest of "MKBL" after two matched bytes, and more. -/
theorem test_ident :
    u3After
      { reading .dScan1 [0x42, 0x4C, 0x21] with u3 := { (reading .dScan1 []).u3 with matchIdx := 2 } } =
      some ([], .signatureExchange, .sigSend) := by decide
/-- R169, R170. -/
theorem test_sig_reply : u3After (reading .sigWait [0xE0, 0x01]) = some ([], .deviceConfigured, .setdevSend) := by decide
/-- R250: a signature that the table does not have. -/
theorem test_sig_unknown :
    (next? (step (reading .sigWait [0x99, 0x00]))).map (fun t => (t.u3.sesCode, t.u3.sesVal, t.u3.kind)) =
      some (.unknownSignature, 0x99, none) := by decide
/-- R163. -/
theorem test_ok_setdev : u3After (reading .setdevWait [0x0D]) = some ([], .deviceConfigured, .verSend) := by decide
/-- R163: after 'e', a reply 3F. -/
theorem test_not_ok :
    (next? (step (reading .eraseWait [0x3F]))).map (fun t => (t.u3.sesCode, t.u3.sesOp, t.u3.sesVal)) =
      some (.notOk, .erase, 0x3F) := by decide
/-- R173. -/
theorem test_ver_reply : u3After (reading .verWait [0x31, 0x30]) = some ([], .deviceConfigured, .bsizeSend) := by decide
/-- R174: reply 59 00 80. -/
theorem test_bsize_reply :
    (next? (step (reading .bsizeWait [0x59, 0x00, 0x80]))).map (fun t => (t.u3.blockSize, t.u3.sesStep)) =
      some (0x0080, .xsizeSend) := by decide
/-- R174: size 0. -/
theorem test_bsize_zero :
    (next? (step (reading .bsizeWait [0x59, 0x00, 0x00]))).map (·.u3.sesCode) = some .zeroBlockSize := by decide
/-- 43_block_transfer.md R200, R201: the 10-byte image in blocks of 4. -/
theorem test_ok_addr :
    (next? (step (reading .addrWait [0x0D]))).map (fun t => (t.u3.nblocks, t.u3.blk, t.u3.sesStep)) =
      some (3, 0, .blkHdr) := by decide
/-- R207: the last block's acknowledgement. -/
theorem test_ok_last_block :
    (next? (step { reading .blkWait [0x0D] with u3 := { (reading .blkWait []).u3 with blk := 2 } })).map
      (fun t => (t.u3.blk, t.u3.sesState, t.u3.sesStep)) = some (3, .complete, .exitSend) := by decide
/-- 42_session.md R168: no match at the deadline. -/
theorem test_discovery_timeout :
    (next? (step { reading .dScan2 [0x4D] with u3 := { (reading .dScan2 []).u3 with t := 10000 } })).map
      (fun t => (t.u3.sesCode, t.u3.sesExp, t.u3.sesObs)) = some (.discoveryTimeout, 4, 1) := by decide

/-! ## Words of the opcode table, in its own numbering -/

theorem test_table_control : decodeTableWord 16 0x1031 = some (.hexChar 0x31) := by decide +kernel
theorem test_table_record : decodeTableWord 8 0x02 = some (.recExtAddr 0 [] 0) := by decide +kernel
theorem test_table_message : decodeTableWord 32 0x42000446 = some (.txBlock (.header 0x0004)) := by decide +kernel
theorem test_table_reply : decodeTableWord 24 0x590080 = some (.rxBsizeReply 0x00 0x80) := by decide +kernel
/-- An EOF record placed at reset is the next instruction: the image is empty (41_hex_parser.md R140). -/
theorem test_fetch_record : (u2After (State.reset.withFetchWord 8 0x01)).map (·.hxCode) = some .emptyImage := by
  decide +kernel

/-! ## Witnesses: states that meet the hypotheses of the obligations -/

theorem wit_decode_of_encode :
    (Instr.recData 0x0000 [0x01, 0x02, 0x03, 0x04] 0xF2).wf = true ∧
      fitsParams par (.recData 0x0000 [0x01, 0x02, 0x03, 0x04] 0xF2) = true := by decide

theorem wit_control_word : decodeCw 0x1100 = .ok .hexEnd := by decide

theorem wit_reserved_word :
    (withWord 0x21FF base).env.events = [.word 0x21FF] ∧ decodeCw 0x21FF = .error (.reservedOp 0x21) ∧
      decodeCw 0x2001 = .error (.reservedData 0x20 0x01) := by decide

/-- The digits of a line, checked one by one. -/
theorem digitsGood_of_all (chars : List Byte) (lo hi : Nat)
    (h : ((List.range (hi - lo)).all fun j => (chars[lo + j]?.bind hexval).isSome) = true) : digitsGood chars lo hi := by
  intro j h1 h2
  have := List.all_eq_true.1 h (j - lo) (List.mem_range.2 (by omega))
  rw [Nat.add_sub_cancel' h1] at this
  cases hc : chars[j]? with
  | none => simp [hc] at this
  | some c => exact ⟨c, rfl, by simpa [hc] using this⟩

/-- `:0000001FF`, 10 characters. -/
theorem wit_line_too_short : (lineEof.drop 1).length < par.minLineLen := by decide
/-- A bad digit at the lowest and at the highest header offset. -/
theorem wit_header_digit :
    par.minLineLen ≤ 11 ∧ firstBadDigit (0x3A :: 0x47 :: lineEof.drop 2) 1 1 0x47 ∧
      firstBadDigit (lineEof.take 8 ++ [0x47, 0x46, 0x46]) 1 8 0x47 :=
  ⟨by decide, ⟨by decide, by decide, by decide, digitsGood_of_all _ _ _ (by decide)⟩,
    ⟨by decide, by decide, by decide, digitsGood_of_all _ _ _ (by decide)⟩⟩
/-- BB = 0 and 12 characters; the longest length of a two-digit BB is one short in 12. -/
theorem wit_length :
    par.minLineLen ≤ (lineEof ++ [0x30]).length ∧ digitsGood (lineEof ++ [0x30]) 1 9 ∧
      (lineEof ++ [0x30]).length ≠ 11 + 2 * (hexAt (lineEof ++ [0x30]) 1).toNat :=
  ⟨by decide, digitsGood_of_all _ _ _ (by decide), by decide⟩
/-- A bad digit at offset 9 and at the last offset. -/
theorem wit_tail_digit :
    digitsGood (lineEof.take 9 ++ [0x5A, 0x46]) 1 9 ∧
      (lineEof.take 9 ++ [0x5A, 0x46]).length = 11 + 2 * (hexAt (lineEof.take 9 ++ [0x5A, 0x46]) 1).toNat ∧
      firstBadDigit (lineEof.take 9 ++ [0x5A, 0x46]) 9 9 0x5A ∧
      firstBadDigit (lineEof.take 10 ++ [0x5A]) 9 10 0x5A :=
  ⟨digitsGood_of_all _ _ _ (by decide), by decide,
    ⟨by decide, by decide, by decide, digitsGood_of_all _ _ _ (by decide)⟩,
    ⟨by decide, by decide, by decide, digitsGood_of_all _ _ _ (by decide)⟩⟩

theorem wit_decoded_fields :
    par.minLineLen ≤ lineData.length ∧ digitsGood lineData 1 lineData.length ∧
      lineData.length = 11 + 2 * (hexAt lineData 1).toNat :=
  ⟨by decide, digitsGood_of_all _ _ _ (by decide), by decide⟩

theorem wit_step_word : (withWord 0x1100 base).env.events = [.word 0x1100] ∧ decodeCw 0x1100 = .ok .hexEnd := by decide

/-- U3 has the turn, by its own move and by an empty schedule. -/
theorem wit_u3_next : u3Next (sesAt .blkCrc) [] ∧ u3Next base [] := ⟨.inl rfl, .inr ⟨rfl, rfl⟩⟩

/-- U3 stands at each send step, with a chunk to read. -/
theorem wit_step_sends :
    atStep .dReset (sesAt .dReset) ∧ atStep .dPing1 (sesAt .dPing1) ∧ atStep .dPing2 (sesAt .dPing2) ∧
      atStep .sigSend (sesAt .sigSend) ∧ atStep .setdevSend (sesAt .setdevSend) ∧ atStep .verSend (sesAt .verSend) ∧
      atStep .bsizeSend (sesAt .bsizeSend) ∧ atStep .xsizeSend (sesAt .xsizeSend) ∧
      atStep .eraseSend (sesAt .eraseSend) ∧ atStep .addrSend (sesAt .addrSend) ∧ atStep .blkHdr (sesAt .blkHdr) ∧
      atStep .blkData (sesAt .blkData) ∧ atStep .blkCrc (sesAt .blkCrc) ∧ atStep .exitSend (sesAt .exitSend) := by decide
theorem wit_chunk :
    chunk (sesAt .blkData) (sesAt .blkData).u3.blk.toNat = .ok [0, 1, 2, 3] ∧
      chunk (sesAt .blkCrc) (sesAt .blkCrc).u3.blk.toNat = .ok [0, 1, 2, 3] := by decide +kernel

/-- At every step of these sessions the Send draws OK. -/
theorem wit_send_ok (at_ : SesStep) : (drawSend (sesAt at_)).1 = .ok := rfl

/-- The largest size that is declared, and the first that is not. -/
theorem wit_erase_size_bounds :
    let s n := { sesAt .xsizeSend with u2 := { doneUnit with cursor := n } }
    atStep .xsizeSend (s 0xFFFFFF) ∧ totalBytes (s 0xFFFFFF) ≤ 0xFFFFFF ∧ atStep .xsizeSend (s 0x1000000) ∧
      0xFFFFFF < totalBytes (s 0x1000000) := by decide

theorem wit_step_record :
    (collecting lineData).u2.hxState = .collect ∧
      decodeLine par.minLineLen lineData = .ok ⟨0x00, 0x0000, [0x01, 0x02, 0x03, 0x04], 0xF2⟩ ∧
      (withWord 0x100D (collecting lineData)).env.events = [.word 0x100D] ∧
      (withWord 0x100A (collecting lineData)).env.events = [.word 0x100A] := by decide

theorem wit_step_reply :
    let s := reading .setdevWait [0x0D]
    s.env.events = [.u3] ∧ (drawRead s).1 = .bytes [0x0D] ∧ s.u3.sesState = stepStage s.u3.sesStep ∧
      s.u3.wPhase = .read ∧ waitOf s.par s.u3.sesStep = some ⟨1, 500, .setdev, .ok⟩ ∧
      (s.u3.rxbuf ++ [0x0D]).length = 1 ∧ decodeRx s.par.vRespLen .ok (s.u3.rxbuf ++ [0x0D]) = .ok .rxOk := by decide
theorem wit_step_match :
    let s := reading .dScan2 [0x4D, 0x4B, 0x42, 0x4C]
    atStep .dScan2 s ∧ atStep .dScan1 (reading .dScan1 []) ∧ (drawRead s).1 = .bytes [0x4D, 0x4B, 0x42, 0x4C] ∧
      (scanBytes s.par.matchRetest s.u3.matchIdx [0x4D, 0x4B, 0x42, 0x4C]).2 = true := by decide

theorem wit_crc_16_8 : par.crcIters = 16 ∧ par8.crcIters = 8 ∧ par.crcPoly = par8.crcPoly ∧ par.crcPoly = 0x1021 := by
  decide

/-- A line with room for one character, and a full one. -/
theorem wit_hex_char :
    let full := List.replicate 521 (0x3A : Byte)
    base.u2.hxState = .seek ∧ (collecting full).u2.hxState = .collect ∧
      par.lineMax ≤ (collecting full).u2.line.length ∧ (collecting (full.take 520)).u2.line.length < par.lineMax ∧
      (0x3A : Byte) ≠ 0x0D ∧ (0x3A : Byte) ≠ 0x0A := by decide +kernel
theorem wit_counter : (0xFFFFFFFE : Word32).toNat + 1 < 2 ^ 32 := by decide
theorem wit_hex_final :
    ({ base with u2 := doneUnit } : State).u2.hxState = .done ∧
      ({ base with u2 := { hexReset with hxState := .error } } : State).u2.hxState = .error := by decide

/-- REC.DATA: contiguous up to the capacity, past it, and off the cursor; a good checksum, and a bad one. -/
theorem wit_data_record :
    let s := collecting10 lineData
    let full : State := { s with par := { par with imageCapacity := 11 } }
    s.u2.hxState = .collect ∧ recordSum 0x00 0x000A [0x01] 0xF4 = 0 ∧ recordSum 0x00 0x000B [] 0xF4 ≠ 0 ∧
      s.par.strictChecksum = false ∧
      s.u2.curOff.toNat + (0x000A : Word16).toNat = s.u2.cursor.toNat ∧
      s.u2.cursor.toNat + [0x01].length ≤ s.par.imageCapacity.toNat ∧
      s.u2.cursor.toNat + [0x01].length ≤ full.par.imageCapacity.toNat ∧
      full.u2.hxState = .collect ∧ full.u2.curOff.toNat + (0x000A : Word16).toNat = full.u2.cursor.toNat ∧
      full.par.strictChecksum = false ∧ full.par.imageCapacity.toNat < full.u2.cursor.toNat + [0x01, 0x02].length ∧
      s.u2.curOff.toNat + (0x000B : Word16).toNat ≠ s.u2.cursor.toNat ∧
      s.u2.curOff.toNat + (0x0009 : Word16).toNat ≠ s.u2.cursor.toNat := by decide

/-- REC.EXTADDR: one payload byte, two with the cursor and two off it. -/
theorem wit_ext_record :
    (collecting lineExt).u2.hxState = .collect ∧ recordSum 0x02 0x0000 [0x10, 0x00] 0xEC = 0 ∧
      [(0x10 : Byte)].length < 2 ∧ extOffset 0x10 0x00 ≠ (collecting lineExt).u2.cursor ∧
      extOffset 0x00 0x00 = (collecting lineExt).u2.cursor ∧ extOffset 0xFF 0xFF = 0xFFFF0 := by decide
/-- REC.EOF: an empty image and the 10-byte one. -/
theorem wit_eof_record :
    (collecting lineEof).u2.hxState = .collect ∧ recordSum 0x01 0x0000 [] 0xFF = 0 ∧
      (collecting lineEof).u2.image.length = (collecting lineEof).u2.cursor.toNat ∧
      (collecting lineEof).u2.cursor = 0 ∧ par.allowEmptyImage = false ∧
      (collecting10 lineEof).u2.hxState = .collect ∧
      (collecting10 lineEof).u2.image.length = (collecting10 lineEof).u2.cursor.toNat ∧
      (collecting10 lineEof).u2.cursor ≠ 0 := by decide
theorem wit_unsupported_record :
    (collecting lineLinear).u2.hxState = .collect ∧ 3 ≤ (0x03 : Byte).toNat ∧
      recordSum 0x03 0x0000 [0x00, 0x00] 0xFB = 0 := by decide
theorem wit_checksum :
    (collecting lineBadSum).u2.hxState = .collect ∧ recordSum 0x00 0x0000 [0x00] 0xFE ≠ 0 ∧
      (collecting lineBadSum).par.strictChecksum = false ∧ parStrict.strictChecksum = true := by decide

theorem wit_start :
    ({ base with u2 := doneUnit } : State).u3.sesState = .idle ∧ ({ base with u2 := doneUnit } : State).u2.hxState = .done ∧
      base.u3.sesState = .idle ∧ base.u2.hxState ≠ .done ∧ (sesAt .stepEnd).u3.sesState ≠ .idle := by decide
/-- In IDLE, the HOST issues HEX.END, or asserts RST. -/
theorem wit_stays_idle :
    let s := withWord 0x1100 base
    let r : State := { base with env := { envReset with events := [.rst] } }
    (s.u3.sesState = .idle ∧ (next? (step s)).isSome = true ∧ (∀ rest, s.env.events ≠ .word 0x2000 :: rest) ∧
      noReset s) ∧
    (r.u3.sesState = .idle ∧ (next? (step r)).isSome = true ∧ ∀ rest, r.env.events ≠ .word 0x2000 :: rest) :=
  ⟨⟨by decide, by decide, fun _ h => by simp [withWord] at h, fun _ h => by simp [withWord] at h⟩, by decide, by decide,
    fun _ h => by simp at h⟩

theorem wit_send_failure :
    let s := broken .setdevSend
    messageAt (.txSetDev 0xE0) = some (.setdevSend, .setdev) ∧ atStep .setdevSend s ∧ (drawSend s).1 = .ioError 0 ∧
      0 < (encode (.txSetDev 0xE0)).length := by decide
/-- The CRC part fails with the chunk's CRC computed (43_block_transfer.md R205). -/
theorem wit_crc_send_failure :
    let s := broken .blkCrc
    messageAt (.txBlock (.crc 0xCCA5)) = some (.blkCrc, .block) ∧ atStep .blkCrc s ∧ (drawSend s).1 = .ioError 0 ∧
      chunk s s.u3.blk.toNat = .ok [0x00, 0x01, 0x02, 0x03] ∧
      (next? (step s)).map (·.u3.crcS) = some 0xCCA5 := by decide +kernel

/-- U3 about to read at each wait. -/
theorem wit_waits :
    atRead .sigWait (reading .sigWait []) ∧ atRead .setdevWait (reading .setdevWait []) ∧
      atRead .verWait (reading .verWait []) ∧ atRead .bsizeWait (reading .bsizeWait []) ∧
      atRead .xsizeWait (reading .xsizeWait []) ∧ atRead .eraseWait (reading .eraseWait []) ∧
      atRead .addrWait (reading .addrWait []) ∧ atRead .blkWait (reading .blkWait []) := by decide
/-- No entry, an entry, and an expected kind that differs, agrees or is not given. -/
theorem wit_signature :
    let s k : State := { reading .sigWait [] with u3 := { (reading .sigWait []).u3 with expKind := k } }
    atRead .sigWait (s none) ∧ sigKind (s none).par.sigTable 0x99 = none ∧
      sigKind (s none).par.sigTable 0xE1 = some kindB ∧ (s none).u3.expKind = none ∧
      atRead .sigWait (s (some kindA)) ∧ (s (some kindA)).u3.expKind ≠ none ∧
      (s (some kindA)).u3.expKind ≠ some kindB ∧ (s (some kindB)).u3.expKind = some kindB := by decide

theorem wit_block_count : (reading .addrWait []).u3.blockSize ≠ 0 ∧ totalBytes (reading .addrWait []) ≤ 0x1100EE := by
  decide
/-- Below the last block, and at it. -/
theorem wit_block_ack :
    let s k : State := { reading .blkWait [] with u3 := { (reading .blkWait []).u3 with blk := k } }
    atRead .blkWait (s 1) ∧ (s 1).u3.blk < (s 1).u3.nblocks ∧ (s 1).u3.blk.toNat + 1 < (s 1).u3.nblocks.toNat ∧
      atRead .blkWait (s 2) ∧ (s 2).u3.blk < (s 2).u3.nblocks ∧
      (s 2).u3.blk.toNat + 1 = (s 2).u3.nblocks.toNat := by decide

theorem wit_block_size :
    (reading .bsizeWait []).u3.kind = some kindA ∧ ((0x00 : Byte) ≠ 0 ∨ (0x01 : Byte) ≠ 0) := by decide

/-- Every outcome of a wait's read that is not a reply: IOError, too long, rejected, before the deadline and at it. -/
theorem wit_wait_read :
    let w : WaitSpec := ⟨1, 500, .setdev, .ok⟩
    let late s : State := { s with u3 := { s.u3 with t := 500 } }
    let soon s : State := { s with u3 := { s.u3 with t := 499 } }
    let s := reading .setdevWait []
    let long := reading .setdevWait [0x0D, 0x0D]
    let nak := reading .setdevWait [0x3F]
    let mark := reading .bsizeWait [0x00, 0x00, 0x00]
    (s.env.events = [.u3] ∧ s.u3.sesState = stepStage s.u3.sesStep ∧ s.u3.wPhase = .read ∧
      waitOf s.par s.u3.sesStep = some w ∧ (drawRead s).1 = .bytes [] ∧ s.u3.rxbuf.length < w.len) ∧
    ((late s).u3.wStart + w.timeout ≤ (late s).u3.t ∧ (soon s).u3.t < (soon s).u3.wStart + w.timeout) ∧
    ((drawRead (broken .setdevWait)).1 = .ioError ∧ (broken .setdevWait).u3.wPhase = .read) ∧
    ((drawRead long).1 = .bytes [0x0D, 0x0D] ∧ w.len < (long.u3.rxbuf ++ [0x0D, 0x0D]).length) ∧
    ((drawRead nak).1 = .bytes [0x3F] ∧ w.kind = .ok ∧ nak.u3.rxbuf ++ [0x3F] = [0x3F] ∧ (0x3F : Byte) ≠ 0x0D) ∧
    (waitOf mark.par mark.u3.sesStep = some ⟨3, 500, .bsize, .bsize⟩ ∧ mark.u3.wPhase = .read ∧
      (drawRead mark).1 = .bytes [0x00, 0x00, 0x00] ∧ (0x00 : Byte) ≠ 0x59) := by decide

theorem wit_sleep :
    let s := sesAt .sigWait
    atStep .dSettle (sesAt .dSettle) ∧ atStep .dGap1 (sesAt .dGap1) ∧ atStep .dGap2 (sesAt .dGap2) ∧
      waitOf s.par s.u3.sesStep = some ⟨2, 500, .sig, .sig⟩ ∧ s.u3.sesState = stepStage s.u3.sesStep ∧
      s.u3.wPhase = .sleep := by decide

/-- A scan point with an IOError, a match, no match before the deadline, and none at it. -/
theorem wit_scan :
    let late : State := { reading .dScan2 [0x4D] with u3 := { (reading .dScan2 []).u3 with t := 10000 } }
    let soon : State := { reading .dScan2 [0x4D] with u3 := { (reading .dScan2 []).u3 with t := 9999 } }
    let found := reading .dScan1 identBytes
    (atStep .dScan1 (broken .dScan1) ∧ (drawRead (broken .dScan1)).1 = .ioError) ∧
    (atStep .dScan1 found ∧ (drawRead found).1 = .bytes identBytes ∧
      (scanBytes found.par.matchRetest found.u3.matchIdx identBytes).2 = true) ∧
    (atStep .dScan2 late ∧ (drawRead late).1 = .bytes [0x4D] ∧
      (scanBytes late.par.matchRetest late.u3.matchIdx [0x4D]).2 = false ∧
      late.u3.t0 + late.par.tDiscovery ≤ late.u3.t) ∧
    (atStep .dScan2 soon ∧ soon.u3.t < soon.u3.t0 + soon.par.tDiscovery) := by decide
/-- The matcher at its first and at its last index. -/
theorem wit_matcher :
    (scanBytes false 0 identBytes).2 = true ∧ (0 : Nat) < 4 ∧ (scanBytes true 3 [0x4C]).2 = true ∧ (3 : Nat) < 4 := by
  decide

/-- The 10-byte image in the middle of its session has every invariant. -/
theorem wit_imageInv (at_ : SesStep) : imageInv (sesAt at_) := by
  refine ⟨?_, ?_⟩
  · show image10.map Prod.fst = List.range 10
    decide
  · show (10 : Word32).toNat ≤ (0x1100EE : Word32).toNat
    decide
/-- The same session with all it has sent after one ping. -/
def midBlock : State :=
  { sesAt .blkData with u3 := { (sesAt .blkData).u3 with tx := txAtStep (sesAt .blkData) 1 .blkData } }
theorem wit_sessionInv : sessionInv midBlock where
  stage := .inl rfl
  imageReady := fun _ => rfl
  identity := fun _ => ⟨by decide, by decide, .inl rfl⟩
  blockSize := fun _ => by decide
  eraseKind := fun _ h => by cases h
  block := ⟨fun _ => ⟨by decide, by decide⟩, fun h => by cases h⟩
theorem wit_tx_history :
    sessionInv midBlock ∧ imageInv midBlock ∧ txInv midBlock ∧ (next? (step midBlock)).isSome = true :=
  ⟨wit_sessionInv, wit_imageInv .blkData, fun _ => ⟨1, Nat.le_refl 1, rfl⟩, by decide +kernel⟩
/-- A session's state before a U3 turn, and before a reserved word. -/
theorem wit_session_never_stops :
    let s : State := { midBlock with env := { envReset with events := [.word 0x2001] } }
    (sessionInv midBlock ∧ imageInv midBlock ∧ ¬ reservedNext midBlock ∧ meaningful midBlock) ∧
      (sessionInv s ∧ imageInv s ∧ reservedNext s) :=
  ⟨⟨wit_sessionInv, wit_imageInv .blkData, fun ⟨_, _, _, h, _⟩ => by simp [midBlock, sesAt] at h, rfl⟩,
    ⟨⟨wit_sessionInv.stage, wit_sessionInv.imageReady, wit_sessionInv.identity, wit_sessionInv.blockSize,
      wit_sessionInv.eraseKind, wit_sessionInv.block⟩, wit_imageInv .blkData,
      ⟨0x2001, [], .reservedData 0x20 0x01, rfl, by decide⟩⟩⟩
/-- The session at its end, all three blocks acknowledged. -/
theorem wit_status_ports :
    let s : State := { sesAt .stepEnd with u3 := { (sesAt .stepEnd).u3 with blk := 3 } }
    sessionInv s ∧ s.u3.sesState = .complete ∧ s.u3.sesStep = .stepEnd :=
  ⟨⟨.inl rfl, fun _ => rfl, fun _ => ⟨by decide, by decide, .inl rfl⟩, fun _ => by decide,
    fun h => by cases h <;> contradiction, ⟨fun h => (by cases h.1), fun _ => ⟨by decide, by decide⟩⟩⟩, rfl, rfl⟩
/-- The HOST sets EXPECTED_KIND in the middle of a session. -/
theorem wit_expect_move :
    let s : State := { midBlock with env := { envReset with events := [.expect (some kindA)] } }
    s.env.events = [.expect (some kindA)] ∧ (next? (step s)).map (·.u3) = some s.u3 := by decide
/-- U3 alone moves. -/
theorem wit_session_ends :
    let s : State := { midBlock with env := envReset }
    sessionInv s ∧ imageInv s ∧ s.env.events = [] :=
  ⟨⟨wit_sessionInv.stage, wit_sessionInv.imageReady, wit_sessionInv.identity, wit_sessionInv.blockSize,
    wit_sessionInv.eraseKind, wit_sessionInv.block⟩, wit_imageInv .blkData, rfl⟩
/-- U3 is about to send 'e', and about to send 'X'. -/
theorem wit_identity_before_erase :
    (sessionInv (sesAt .eraseSend) ∧ u3Fetch (sesAt .eraseSend) = .ok (.send .txErase)) ∧
      (sessionInv (sesAt .xsizeSend) ∧ u3Fetch (sesAt .xsizeSend) = .ok (.send (.txEraseSize 10))) :=
  ⟨⟨⟨.inl rfl, fun _ => rfl, fun _ => ⟨by decide, by decide, .inl rfl⟩, fun _ => by decide, fun _ _ => by decide,
      ⟨fun h => (by have := h.1; cases this), fun h => by cases h⟩⟩, rfl⟩,
    ⟨⟨.inl rfl, fun _ => rfl, fun _ => ⟨by decide, by decide, .inl rfl⟩, fun _ => by decide, fun _ _ => by decide,
      ⟨fun h => (by have := h.1; cases this), fun h => by cases h⟩⟩, rfl⟩⟩
theorem wit_parserInv :
    boundsInv (sesAt .dPing1) ∧ lineInv (sesAt .dPing1) ∧ hexErrorInv (sesAt .dPing1) ∧
      (next? (step (sesAt .dPing1))).isSome = true :=
  ⟨⟨by decide, by decide, by decide⟩, ⟨by decide, fun _ => rfl, fun h => by cases h⟩,
    ⟨rfl, rfl, rfl, rfl, rfl, rfl⟩, by decide⟩

theorem wit_registersInv :
    sesErrorInv (sesAt .sigWait) ∧ matchInv (sesAt .sigWait) ∧ waitInv (sesAt .sigWait) ∧ timeInv (sesAt .sigWait) ∧
      (next? (step (sesAt .sigWait))).isSome = true :=
  ⟨⟨rfl, rfl, rfl, rfl, rfl, rfl⟩, ⟨by decide, fun h => by cases h⟩, fun w h => by cases h; decide,
    ⟨by decide, by decide⟩, by decide⟩

/-- A step that is not RST and answers a next state, of U3 and of the HOST. -/
theorem wit_no_reset_step :
    (noReset (sesAt .dPing1) ∧ u3Next (sesAt .dPing1) [] ∧ (next? (step (sesAt .dPing1))).isSome = true) ∧
      (noReset (withWord 0x1100 base) ∧ (next? (step (withWord 0x1100 base))).isSome = true) :=
  ⟨⟨fun _ h => by simp [sesAt] at h, .inl rfl, by decide⟩, ⟨fun _ h => by simp [withWord] at h, by decide⟩⟩

/-- The same step of U3 over a DONE image. -/
theorem wit_done_step :
    imageInv (sesAt .dPing1) ∧ (sesAt .dPing1).u2.hxState = .done ∧ (sesAt .dPing1).u2.hxCode ≠ .totalMismatch ∧
      Memory.wf (sesAt .dPing1).u2.image := ⟨wit_imageInv _, by decide⟩

theorem wit_reset_move : ({ sesAt .blkData with env := { envReset with events := [.rst] } } : State).env.events = [.rst] := by
  decide
/-- Both units have failed, and the HOST issues HEX.CHAR ':'. -/
theorem wit_absorbing :
    let s : State := withWord 0x103A (sesFail .notOk .erase 1 1 0x3F 0 { base with u2 := hexError .missingEof 0 0 0 hexReset })
    noReset s ∧ (next? (step s)).isSome = true ∧ s.u3.sesState = .failed ∧ s.u2.hxState = .error :=
  ⟨fun _ h => by simp [withWord] at h, by decide, by decide, by decide⟩

/-- The states in which the model stops. -/
theorem wit_stops :
    let s := { reading .addrWait [] with u3 := { (reading .addrWait []).u3 with blockSize := 0 } }
    let k := { reading .bsizeWait [] with u3 := { (reading .bsizeWait []).u3 with kind := none } }
    let c := { sesAt .blkCrc with u2 := { doneUnit with image := [] } }
    atRead .addrWait s ∧ s.u3.blockSize = 0 ∧ atRead .bsizeWait k ∧ k.u3.kind = none ∧ atStep .blkCrc c ∧
      chunk c c.u3.blk.toNat = .error (.unwrittenCell 0) := by decide

end Sys2Proof.Tests
end

/-! PROOF. Everything U3 can do, said once: the moves of the session engine (42_session.md R160 to R176,
43_block_transfer.md R200 to R210) as an inductive relation, and the inversion lemmas that tie it to SES.START and to
U3's turn. Every invariant of U3 is a case analysis over `SesMove`. -/

namespace Sys2Proof.Machine

/-! ## The moves -/

/-- A step that sends its message, and the step U3 goes on to without a wait. -/
inductive SendsOn : SesStep → SesStep → Prop
  | resetFrame : SendsOn .dReset .dSettle
  | ping1 : SendsOn .dPing1 .dGap1
  | ping2 : SendsOn .dPing2 .dGap2
  | header : SendsOn .blkHdr .blkData
  | data : SendsOn .blkData .blkCrc
  | exit : SendsOn .exitSend .stepEnd

/-- A step that sends its message, and the wait it starts; BLK_CRC, which also writes `crc_s`, stands apart. -/
inductive SendsAndWaits : SesStep → SesStep → Prop
  | sig : SendsAndWaits .sigSend .sigWait
  | setdev : SendsAndWaits .setdevSend .setdevWait
  | ver : SendsAndWaits .verSend .verWait
  | bsize : SendsAndWaits .bsizeSend .bsizeWait
  | xsize : SendsAndWaits .xsizeSend .xsizeWait
  | erase : SendsAndWaits .eraseSend .eraseWait
  | addr : SendsAndWaits .addrSend .addrWait

/-- A ping gap and the scan point behind it. -/
inductive GapThenScan : SesStep → SesStep → Prop
  | first : GapThenScan .dGap1 .dScan1
  | second : GapThenScan .dGap2 .dScan2

/-- A scan point and the ping that the discovery loop goes on with. -/
inductive ScanThenPing : SesStep → SesStep → Prop
  | first : ScanThenPing .dScan1 .dPing2
  | second : ScanThenPing .dScan2 .dPing1

/-- A wait whose accepted reply changes no session data, and the step behind it. -/
inductive Acknowledges : SesStep → SesStep → Prop
  | setdev : Acknowledges .setdevWait .verSend
  | ver : Acknowledges .verWait .bsizeSend
  | xsize : Acknowledges .xsizeWait .eraseSend
  | erase : Acknowledges .eraseWait .addrSend

/-- What U3 may have changed of `s` by the time it fails in `s'`: the draws, the bytes of a message cut short, `crc_s`
at BLK_CRC, the matcher, the wait's buffer, the signature. -/
structure FailsFrom (s s' : State) : Prop where
  running : s.u3.sesState ≠ .failed
  par : s'.par = s.par
  u2 : s'.u2 = s.u2
  crcH : s'.crcH = s.crcH
  refused : s'.refused = s.refused
  t : s'.u3.t = s.u3.t
  t0 : s'.u3.t0 = s.u3.t0
  wStart : s'.u3.wStart = s.u3.wStart
  matchIdx : s.u3.matchIdx ≤ 4 → s'.u3.matchIdx ≤ 4
  tx : s'.u3.tx = s.u3.tx ∨
    ∃ i n, u3Fetch s = .ok (.send i) ∧ s'.u3.tx = s.u3.tx ++ (encode i).take n
  crcS : s'.u3.crcS = s.u3.crcS ∨
    ∃ bytes, atStep .blkCrc s ∧ chunk s s.u3.blk.toNat = .ok bytes ∧ s'.u3.crcS = crcOf s.par bytes

/-- Everything SES.START and U3's turn can do. -/
inductive SesMove (s : State) : State → Prop
  | stayed : SesMove s s
  | started (hidle : s.u3.sesState = .idle) (hdone : s.u2.hxState = .done) :
      SesMove s (goStage .discovering .dReset
        { s with u3 := { s.u3 with expKind := s.env.expectedKind, matchIdx := 0 } })
  | failed {s' : State} {code : SesCode} {op : SesOp} {exp obs : Word32} {val : Byte} {blk : Word32}
      (hcode : code ≠ .noError) (hfrom : FailsFrom s s') : SesMove s (sesFail code op exp obs val blk s')
  | settled (hat : atStep .dSettle s) (hsleep : u3Fetch s = .ok .sleep) :
      SesMove s (goStep .dPing1 (startDiscovery (sleepFor s.par.tSettle s)))
  | gap {a b : SesStep} {d : Nat} (hab : GapThenScan a b) (hat : atStep a s) (hsleep : u3Fetch s = .ok .sleep) :
      SesMove s (goStep b (sleepFor d s))
  | polled {a : SesStep} {w : WaitSpec} (hat : atStep a s) (hw : waitOf s.par a = some w)
      (hsleep : u3Fetch s = .ok .sleep) : SesMove s (toRead (sleepFor s.par.tPoll s))
  | sentOn {a b : SesStep} {i : Instr} (hab : SendsOn a b) (hat : atStep a s) (hsend : u3Fetch s = .ok (.send i)) :
      SesMove s (goStep b (appendTx (encode i) (drawSend s).2))
  | sentAndWaits {a b : SesStep} {i : Instr} (hab : SendsAndWaits a b) (hat : atStep a s)
      (hsend : u3Fetch s = .ok (.send i)) : SesMove s (startWait b (appendTx (encode i) (drawSend s).2))
  | sentCrc {i : Instr} {bytes : List Byte} (hat : atStep .blkCrc s) (hsend : u3Fetch s = .ok (.send i))
      (hchunk : chunk s s.u3.blk.toNat = .ok bytes) :
      SesMove s (startWait .blkWait (appendTx (encode i)
        (drawSend { s with u3 := { s.u3 with crcS := crcOf s.par bytes } }).2))
  | scannedOn {a b : SesStep} {r : List Byte} (hab : ScanThenPing a b) (hat : atStep a s)
      (hfound : (scanBytes s.par.matchRetest s.u3.matchIdx r).2 = false) : SesMove s (goStep b (withScan r s))
  | identified {a b : SesStep} {r : List Byte} (hab : ScanThenPing a b) (hat : atStep a s) :
      SesMove s (goStage .signatureExchange .sigSend
        { withScan r s with u3 := { (withScan r s).u3 with matchIdx := 4 } })
  | waitsOn {a : SesStep} {w : WaitSpec} {r : List Byte} (hat : atStep a s) (hw : waitOf s.par a = some w)
      (hshort : (s.u3.rxbuf ++ r).length < w.len) : SesMove s (toSleep (withRx r s))
  | acknowledged {a b : SesStep} {r : List Byte} (hab : Acknowledges a b) (hat : atStep a s) :
      SesMove s (goStage (stepStage b) b (withRx r s))
  | signed {r : List Byte} {sig : Byte} {k : DeviceKind} (hat : atStep .sigWait s)
      (hkind : sigKind s.par.sigTable sig = some k) (hexp : s.u3.expKind = none ∨ s.u3.expKind = some k) :
      SesMove s (goStage .deviceConfigured .setdevSend
        { withRx r s with u3 := { (withRx r s).u3 with sig := sig, kind := some k } })
  | sized {r : List Byte} {bs : Word16} {k : DeviceKind} (hat : atStep .bsizeWait s) (hbs : bs ≠ 0)
      (hkind : s.u3.kind = some k) :
      SesMove s (goStage .flashCleared (if needsEraseSize s.par k = true then .xsizeSend else .eraseSend)
        { withRx r s with u3 := { (withRx r s).u3 with blockSize := bs } })
  | addressed {r : List Byte} (hat : atStep .addrWait s) (hbs : s.u3.blockSize ≠ 0)
      (hpos : 0 < blockCount (totalBytes s) s.u3.blockSize.toNat) :
      SesMove s (goStep .blkHdr
        { withRx r s with u3 :=
          { (withRx r s).u3 with nblocks := toU32 (blockCount (totalBytes s) s.u3.blockSize.toNat), blk := 0 } })
  | addressedEmpty {r : List Byte} (hat : atStep .addrWait s) (hbs : s.u3.blockSize ≠ 0)
      (hzero : blockCount (totalBytes s) s.u3.blockSize.toNat = 0) :
      SesMove s (goStage .complete .exitSend
        { withRx r s with u3 := { (withRx r s).u3 with nblocks := toU32 0, blk := 0 } })
  | nextBlock {r : List Byte} (hat : atStep .blkWait s) (hlt : bump s.u3.blk < s.u3.nblocks) :
      SesMove s (goStep .blkHdr { withRx r s with u3 := { (withRx r s).u3 with blk := bump s.u3.blk } })
  | lastBlock {r : List Byte} (hat : atStep .blkWait s) (hlast : ¬ bump s.u3.blk < s.u3.nblocks) :
      SesMove s (goStage .complete .exitSend { withRx r s with u3 := { (withRx r s).u3 with blk := bump s.u3.blk } })

/-! ## SES.START -/

/-- Every step of U3's stages lies outside FAILED. -/
theorem stepStage_ne_failed (a : SesStep) : stepStage a ≠ .failed := by cases a <;> decide

/-- U3 has not failed where it stands at a step. -/
theorem running_of_atStep {a : SesStep} {s : State} (hat : atStep a s) : s.u3.sesState ≠ .failed := by
  rw [hat.1]; exact stepStage_ne_failed a

/-- A unit that has not failed fails as it stands. -/
theorem FailsFrom.refl {s : State} (h : s.u3.sesState ≠ .failed) : FailsFrom s s :=
  ⟨h, rfl, rfl, rfl, rfl, rfl, rfl, rfl, id, .inl rfl, .inl rfl⟩

/-- Everything SES.START can do (R160). -/
theorem execSesStart_move {s t : State} (h : execSesStart s = .next t) : SesMove s t := by
  unfold execSesStart at h
  cases h
  by_cases hidle : s.u3.sesState = .idle
  · by_cases hdone : s.u2.hxState = .done
    · rw [if_pos hidle, if_pos hdone]
      exact .started hidle hdone
    · rw [if_pos hidle, if_neg hdone]
      exact .failed (by decide) (.refl (by simp [hidle]))
  · rw [if_neg hidle]
    exact .stayed

/-! ## Sends -/

/-- A Send at which U3 has the message enabled either goes on with it or fails in the middle of it. -/
theorem sendMsg_move {s s₁ t : State} {i : Instr} {op : SesOp} {blk : Word32} {onOk : State → State}
    (hsend : u3Fetch s = .ok (.send i)) (hfrom : FailsFrom s s₁) (htx : s₁.u3.tx = s.u3.tx)
    (hok : SesMove s (onOk (appendTx (encode i) (drawSend s₁).2)))
    (h : sendMsg op blk (encode i) onOk s₁ = t) : SesMove s t := by
  subst h
  obtain ⟨-, hgo⟩ | ⟨n, -, hfail⟩ := sendMsg_cases op blk (encode i) onOk s₁
  · rw [hgo]; exact hok
  · rw [hfail]
    exact .failed (by decide)
      { running := hfrom.running
        par := by simp [hfrom.par]
        u2 := by simp [hfrom.u2]
        crcH := by simp [hfrom.crcH]
        refused := by simp [hfrom.refused]
        t := by simp [hfrom.t]
        t0 := by simp [hfrom.t0]
        wStart := by simp [hfrom.wStart]
        matchIdx := by simpa using hfrom.matchIdx
        tx := .inr ⟨i, n, hsend, by simp [htx]⟩
        crcS := by simpa using hfrom.crcS }

/-- A message that U3 goes straight on from. -/
theorem sendOn_move {s t : State} {a b : SesStep} {i : Instr} {op : SesOp} {blk : Word32} (hab : SendsOn a b)
    (hat : atStep a s) (hsend : u3Fetch s = .ok (.send i))
    (h : Host.Outcome.next (φ := Fault) (ρ := Refusal) (whenAt a (sendMsg op blk (encode i) (goStep b)) s) = .next t) :
    SesMove s t := by
  rw [whenAt_pos _ _ _ hat] at h
  exact sendMsg_move hsend (.refl (running_of_atStep hat)) rfl (.sentOn hab hat hsend) (Host.Outcome.next.inj h)

/-- A message that starts a wait. -/
theorem sendAndWait_move {s t : State} {a b : SesStep} {i : Instr} {op : SesOp} {blk : Word32}
    (hab : SendsAndWaits a b) (hat : atStep a s) (hsend : u3Fetch s = .ok (.send i))
    (h : Host.Outcome.next (φ := Fault) (ρ := Refusal) (whenAt a (sendMsg op blk (encode i) (startWait b)) s) =
      .next t) : SesMove s t := by
  rw [whenAt_pos _ _ _ hat] at h
  exact sendMsg_move hsend (.refl (running_of_atStep hat)) rfl (.sentAndWaits hab hat hsend) (Host.Outcome.next.inj h)

/-- The erase-size declaration: its range check, then a message that starts a wait (R175). -/
theorem sendEraseSize_move {s t : State} {size : BitVec 24} (hat : atStep .xsizeSend s)
    (hsend : u3Fetch s = .ok (.send (.txEraseSize size))) (h : execTxEraseSize size s = .next t) : SesMove s t := by
  unfold execTxEraseSize at h
  obtain ⟨-, hrange⟩ | ⟨-, hmsg⟩ := sendEraseSize_cases size s
  · rw [whenAt_pos _ _ _ hat, hrange] at h
    cases h
    exact .failed (by decide) (.refl (running_of_atStep hat))
  · refine sendAndWait_move (op := .xsize) (blk := 0) .xsize hat hsend ?_
    rw [whenAt_pos _ _ _ hat] at h ⊢
    rwa [hmsg] at h

/-- The CRC part of a block (43_block_transfer.md R205, R206). -/
theorem sendBlockCrc_move {s t : State} {c : Word16} (hat : atStep .blkCrc s)
    (hsend : u3Fetch s = .ok (.send (.txBlock (.crc c)))) (h : sendBlockCrc c s = .next t) : SesMove s t := by
  obtain ⟨f, -, hfault⟩ | ⟨bytes, hchunk, hgo⟩ := sendBlockCrc_cases c s
  · rw [hfault] at h
    cases h
  · rw [hgo] at h
    have hfrom : FailsFrom s { s with u3 := { s.u3 with crcS := crcOf s.par bytes } } :=
      { FailsFrom.refl (running_of_atStep hat) with crcS := .inr ⟨bytes, hat, hchunk, rfl⟩ }
    exact sendMsg_move hsend hfrom rfl (.sentCrc hat hsend hchunk) (Host.Outcome.next.inj h)

/-! ## The enabled action -/

/-- U3 has no action, or stands at its step in its stage. -/
theorem u3Fetch_cases {s : State} {act : U3Action} (h : u3Fetch s = .ok act) :
    act = .idle ∨ (atStep s.u3.sesStep s ∧ u3ActionAt s s.u3.sesStep = .ok act) := by
  unfold u3Fetch at h
  split at h
  · rename_i hstage
    exact .inr ⟨⟨hstage, rfl⟩, h⟩
  · cases h
    exact .inl rfl

/-- The action at a wait is that of its phase. -/
theorem u3ActionAt_wait {s : State} {a : SesStep} {w : WaitSpec} (hw : waitOf s.par a = some w) :
    u3ActionAt s a = .ok (waitAction s) := by
  cases a with
  | sigWait | setdevWait | verWait | bsizeWait | xsizeWait | eraseWait | addrWait | blkWait => rfl
  | _ => cases hw

/-- A wait sends nothing. -/
theorem waitAction_ne_send (s : State) (i : Instr) : waitAction s ≠ .send i := by
  unfold waitAction; split <;> simp

/-- A wait reads in its READ phase only. -/
theorem waitAction_eq_read {s : State} (h : waitAction s = .read) : s.u3.wPhase = .read := by
  unfold waitAction at h
  split at h
  · cases h
  · assumption

/-- Everything a step that sends can do. -/
theorem u3Send_move {s t : State} {i : Instr} (hsend : u3Fetch s = .ok (.send i)) (h : exec i s = .next t) :
    SesMove s t := by
  obtain hidle | ⟨hat, hact⟩ := u3Fetch_cases hsend
  · cases hidle
  generalize ha : s.u3.sesStep = a at hat hact
  cases a with
  | stepNone | dSettle | dGap1 | dScan1 | dGap2 | dScan2 | stepEnd => cases hact
  | sigWait | setdevWait | verWait | bsizeWait | xsizeWait | eraseWait | addrWait | blkWait =>
    exact absurd (Except.ok.inj hact) (waitAction_ne_send s i)
  | dReset => cases hact; exact sendOn_move .resetFrame hat hsend h
  | dPing1 => cases hact; exact sendOn_move .ping1 hat hsend h
  | dPing2 => cases hact; exact sendOn_move .ping2 hat hsend h
  | sigSend => cases hact; exact sendAndWait_move .sig hat hsend h
  | setdevSend => cases hact; exact sendAndWait_move .setdev hat hsend h
  | verSend => cases hact; exact sendAndWait_move .ver hat hsend h
  | bsizeSend => cases hact; exact sendAndWait_move .bsize hat hsend h
  | xsizeSend => cases hact; exact sendEraseSize_move hat hsend h
  | eraseSend => cases hact; exact sendAndWait_move .erase hat hsend h
  | addrSend => cases hact; exact sendAndWait_move .addr hat hsend h
  | blkHdr => cases hact; exact sendOn_move .header hat hsend h
  | blkData =>
    simp only [u3ActionAt] at hact
    split at hact
    · cases hact
    · cases hact; exact sendOn_move .data hat hsend h
  | blkCrc =>
    simp only [u3ActionAt] at hact
    split at hact
    · cases hact
    · cases hact
      exact sendBlockCrc_move hat hsend ((if_pos hat).symm.trans h)
  | exitSend => cases hact; exact sendOn_move .exit hat hsend h

/-- Everything a step that sleeps can do. -/
theorem u3Sleep_move {s : State} (hsleep : u3Fetch s = .ok .sleep) : SesMove s (u3Sleep s) := by
  obtain hidle | ⟨hat, hact⟩ := u3Fetch_cases hsleep
  · cases hidle
  unfold u3Sleep
  by_cases h1 : s.u3.sesStep = .dSettle
  · rw [if_pos h1]; exact .settled (h1 ▸ hat) hsleep
  rw [if_neg h1]
  by_cases h2 : s.u3.sesStep = .dGap1
  · rw [if_pos h2]; exact .gap .first (h2 ▸ hat) hsleep
  rw [if_neg h2]
  by_cases h3 : s.u3.sesStep = .dGap2
  · rw [if_pos h3]; exact .gap .second (h3 ▸ hat) hsleep
  rw [if_neg h3]
  cases hw : waitOf s.par s.u3.sesStep with
  | some w => exact .polled hat hw hsleep
  | none =>
    exfalso
    generalize s.u3.sesStep = a at *
    cases a with
    | dSettle | dGap1 | dGap2 => contradiction
    | sigWait | setdevWait | verWait | bsizeWait | xsizeWait | eraseWait | addrWait | blkWait => cases hw
    | blkData | blkCrc => simp only [u3ActionAt] at hact; split at hact <;> cases hact
    | _ => cases hact

/-! ## Reads -/

/-- A read that draws nothing more fails as U3 stands. -/
theorem FailsFrom.drawRead {s : State} (h : s.u3.sesState ≠ .failed) : FailsFrom s (drawRead s).2 := by
  constructor <;> simp [h]

/-- A read of a wait leaves all but the wait's buffer to fail from. -/
theorem FailsFrom.withRx {s : State} (h : s.u3.sesState ≠ .failed) (r : List Byte) : FailsFrom s (withRx r s) := by
  constructor <;> simp [h]

/-- The matcher's index stays within 4 (R167). -/
theorem scanBytes_le (retest : Bool) (r : List Byte) (idx : Nat) (hi : idx ≤ 4) :
    (scanBytes retest idx r).1 ≤ 4 := by
  induction r generalizing idx with
  | nil => exact hi
  | cons x rest ih =>
    simp only [scanBytes]
    split
    · rename_i hx
      have hlt : idx < 4 := (List.getElem?_eq_some_iff.1 hx).1
      split
      · exact le_rfl
      · exact ih _ hlt
    · exact ih _ (by split <;> omega)

/-- A scan leaves all but the matcher to fail from. -/
theorem FailsFrom.withScan {s : State} (h : s.u3.sesState ≠ .failed) (r : List Byte) :
    FailsFrom s (withScan r s) := by
  constructor <;> simp +contextual [h, scanBytes_le]

/-- What a read step came to is a move of U3, or a reply whose effect is one. -/
def LeadsToMove (s : State) : ReadResult → Prop
  | .settled t => SesMove s t
  | .reply i s' => ∀ t, exec i s' = .next t → SesMove s t

/-- Everything a scan point can do (R166 to R168). -/
theorem scanRead_move {s : State} {a b : SesStep} (hab : ScanThenPing a b) (hat : atStep a s) :
    LeadsToMove s (scanRead b s) := by
  have hrun := running_of_atStep hat
  obtain ⟨-, he⟩ | ⟨r, -, ⟨-, he⟩ | ⟨-, -, he⟩ | ⟨hfound, -, he⟩⟩ := scanRead_cases b s
  all_goals rw [he]
  · exact SesMove.failed (by decide) (.drawRead hrun)
  · intro t hx
    have hscan : atStep .dScan1 (withScan r s) ∨ atStep .dScan2 (withScan r s) := by
      cases hab
      · exact .inl (by simpa [atStep] using hat)
      · exact .inr (by simpa [atStep] using hat)
    simp only [exec, execRxIdent, if_pos hscan] at hx
    cases hx
    exact .identified hab hat
  · exact SesMove.failed (by decide) (.withScan hrun r)
  · exact SesMove.scannedOn hab hat hfound

/-! ### Replies -/

/-- A reply of the right length is rejected for its content only (R84, R85). -/
theorem decodeRx_error_of_wait {par : Params} {a : SesStep} {w : WaitSpec} {buf : List Byte} {e : ReplyError}
    (hw : waitOf par a = some w) (hlen : buf.length = w.len) (he : decodeRx par.vRespLen w.kind buf = .error e) :
    ∃ b, e = .notOk b ∨ e = .badMarker b := by
  have hok : ∀ b, decodeRx par.vRespLen .ok [b] = .error e → ∃ b, e = .notOk b ∨ e = .badMarker b := by
    intro b h
    simp only [decodeRx] at h
    split at h
    · cases h
    · cases h; exact ⟨b, .inl rfl⟩
  cases a with
  | sigWait =>
    cases hw
    obtain ⟨s0, s1, rfl⟩ := List.length_eq_two.1 hlen
    cases he
  | setdevWait | xsizeWait | eraseWait | addrWait | blkWait =>
    cases hw
    obtain ⟨b, rfl⟩ := List.length_eq_one_iff.1 hlen
    exact hok b he
  | verWait =>
    cases hw
    simp only [decodeRx, if_pos hlen] at he
    cases he
  | bsizeWait =>
    cases hw
    obtain ⟨m, hi, lo, rfl⟩ := List.length_eq_three.1 hlen
    simp only [decodeRx] at he
    split at he
    · cases he
    · cases he; exact ⟨m, .inr rfl⟩
  | _ => cases hw

/-- A rejected reply of the right length fails the session (R163, R174). -/
theorem replyFail_move {s : State} {a : SesStep} {w : WaitSpec} {r : List Byte} {e : ReplyError} (hat : atStep a s)
    (hw : waitOf s.par a = some w) (hlen : (s.u3.rxbuf ++ r).length = w.len)
    (he : decodeRx s.par.vRespLen w.kind (s.u3.rxbuf ++ r) = .error e) :
    SesMove s (replyFail w e (withRx r s)) := by
  have hrun := running_of_atStep hat
  obtain ⟨b, rfl | rfl⟩ := decodeRx_error_of_wait hw hlen he
  · exact .failed (by decide) (.withRx hrun r)
  · exact .failed (by decide) (.withRx hrun r)

/-- The only instruction that an acknowledgement decodes to is RX.OK (R163). -/
theorem decodeRx_ok_eq {vLen : Nat} {buf : List Byte} {i : Instr} (h : decodeRx vLen .ok buf = .ok i) : i = .rxOk := by
  simp only [decodeRx] at h
  split at h
  · split at h
    · cases h; rfl
    · cases h
  · cases h

/-- Everything an accepted signature reply can do to U3 (R170, R171). -/
theorem acceptSignature_move {s : State} {r : List Byte} (s0 : Byte) (hat : atStep .sigWait s) :
    SesMove s (acceptSignature s0 (withRx r s)) := by
  have hfrom := FailsFrom.withRx (running_of_atStep hat) r
  obtain ⟨-, he⟩ | ⟨k, hkind, ⟨-, -, he⟩ | ⟨hexp, he⟩⟩ := acceptSignature_cases s0 (withRx r s)
  · rw [he]; exact .failed (by decide) { hfrom with }
  · rw [he]; exact .failed (by decide) { hfrom with }
  · rw [he]; exact .signed hat (by simpa using hkind) (by simpa using hexp)

/-- Everything an accepted `'A'` acknowledgement can do to U3 (43_block_transfer.md R200, R201). -/
theorem acceptAddress_move {s t : State} {r : List Byte} (hat : atStep .addrWait s)
    (h : acceptAddress (withRx r s) = .next t) : SesMove s t := by
  obtain ⟨-, he⟩ | ⟨n, hn, hbs, ⟨hpos, he⟩ | ⟨hzero, he⟩⟩ := acceptAddress_cases (withRx r s)
  · rw [he] at h; cases h
  all_goals
    simp only [withRx_u3_blockSize] at hbs
    simp only [totalBytes, withRx_u2, withRx_u3_blockSize] at hn
    rw [he] at h
    cases h
  · subst hn
    exact .addressed hat hbs hpos
  · subst hzero
    exact .addressedEmpty hat hbs hn.symm

/-- Everything an accepted block acknowledgement can do to U3 (R207). -/
theorem acceptBlock_move {s : State} {r : List Byte} (hat : atStep .blkWait s) :
    SesMove s (acceptBlock (withRx r s)) := by
  obtain ⟨hlt, he⟩ | ⟨hlast, he⟩ := acceptBlock_cases (withRx r s)
  · rw [he, withRx_u3_blk]
    exact .nextBlock hat (by simpa using hlt)
  · rw [he, withRx_u3_blk]
    exact .lastBlock hat (by simpa using hlast)

/-- Everything an accepted block-size reply can do to U3 (42_session.md R174). -/
theorem acceptBlockSize_move {s t : State} {r : List Byte} {bs : Word16} (hat : atStep .bsizeWait s)
    (h : acceptBlockSize bs (withRx r s) = .next t) : SesMove s t := by
  obtain ⟨-, he⟩ | ⟨-, -, he⟩ | ⟨k, hbs, hkind, he⟩ := acceptBlockSize_cases bs (withRx r s)
  · rw [he] at h; cases h
    exact .failed (by decide) (.withRx (running_of_atStep hat) r)
  · rw [he] at h; cases h
  · rw [he] at h; cases h
    have hsize : needsEraseSize (withRx r s).par k = needsEraseSize s.par k := by rw [withRx_par]
    rw [hsize]
    exact .sized hat hbs (by simpa using hkind)

/-- At its own step a move within the stage is an entry of the stage. -/
theorem goStep_eq_goStage {step : SesStep} {s : State} (h : s.u3.sesState = stepStage step) :
    goStep step s = goStage (stepStage step) step s := by
  simp only [goStep, goStage, ← h]

/-- U3 stands at the wait whose reply it has just read. -/
theorem atRead_withRx {a : SesStep} {s : State} (r : List Byte) (hat : atRead a s) : atRead a (withRx r s) := by
  simpa [atRead, atStep] using hat

/-- What RX.OK does at each wait that it answers. -/
theorem execRxOk_move {s t : State} {a : SesStep} {w : WaitSpec} {r : List Byte} (hat : atRead a s)
    (hw : waitOf s.par a = some w) (hkind : w.kind = .ok) (h : execRxOk (withRx r s) = .next t) : SesMove s t := by
  obtain ⟨⟨hstage, hstep⟩, hphase⟩ := hat
  cases a with
  | setdevWait | xsizeWait =>
    simp [execRxOk, atRead, atStep, hstage, hstep, hphase, stepStage] at h
    subst h
    rw [goStep_eq_goStage (by simp [hstage, stepStage])]
    exact .acknowledged (by constructor) ⟨hstage, hstep⟩
  | eraseWait =>
    simp [execRxOk, atRead, atStep, hstage, hstep, hphase, stepStage] at h
    subst h
    exact .acknowledged .erase ⟨hstage, hstep⟩
  | addrWait =>
    simp [execRxOk, atRead, atStep, hstage, hstep, hphase, stepStage] at h
    exact acceptAddress_move ⟨hstage, hstep⟩ h
  | blkWait =>
    simp [execRxOk, atRead, atStep, hstage, hstep, hphase, stepStage] at h
    subst h
    exact acceptBlock_move ⟨hstage, hstep⟩
  | sigWait | verWait | bsizeWait => cases hw; cases hkind
  | _ => cases hw

/-- What the reply of a satisfied wait does. -/
theorem reply_move {s t : State} {a : SesStep} {w : WaitSpec} {r : List Byte} {i : Instr} (hat : atRead a s)
    (hw : waitOf s.par a = some w) (hlen : (s.u3.rxbuf ++ r).length = w.len)
    (hdec : decodeRx s.par.vRespLen w.kind (s.u3.rxbuf ++ r) = .ok i) (h : exec i (withRx r s) = .next t) :
    SesMove s t := by
  have hread := atRead_withRx r hat
  cases a with
  | sigWait =>
    cases hw
    obtain ⟨s0, s1, hbuf⟩ := List.length_eq_two.1 hlen
    rw [hbuf] at hdec
    cases hdec
    simp only [exec, execRxSigReply, if_pos hread] at h
    cases h
    exact acceptSignature_move s0 hat.1
  | setdevWait | xsizeWait | eraseWait | addrWait | blkWait =>
    have hkind : w.kind = .ok := by cases hw; rfl
    rw [hkind] at hdec
    cases decodeRx_ok_eq hdec
    exact execRxOk_move hat hw hkind h
  | verWait =>
    cases hw
    simp only [decodeRx, if_pos hlen] at hdec
    cases hdec
    simp only [exec, execRxVerReply, if_pos hread] at h
    cases h
    rw [goStep_eq_goStage (by simp [hat.1.1, stepStage])]
    exact .acknowledged .ver hat.1
  | bsizeWait =>
    cases hw
    obtain ⟨m, hi, lo, hbuf⟩ := List.length_eq_three.1 hlen
    rw [hbuf] at hdec
    simp only [decodeRx] at hdec
    split at hdec
    · cases hdec
      simp only [exec, execRxBsizeReply, if_pos hread] at h
      exact acceptBlockSize_move hat.1 h
    · cases hdec
  | _ => cases hw

/-- Everything the READ phase of a wait can do (R164). -/
theorem waitRead_move {s : State} {a : SesStep} {w : WaitSpec} (hat : atRead a s) (hw : waitOf s.par a = some w) :
    LeadsToMove s (waitRead w s) := by
  have hrun := running_of_atStep hat.1
  obtain ⟨-, he⟩ | ⟨r, -, ⟨-, he⟩ | ⟨hlen, ⟨i, hdec, he⟩ | ⟨e, hdec, he⟩⟩ | ⟨-, -, he⟩ | ⟨hshort, -, he⟩⟩ :=
    waitRead_cases w s
  all_goals rw [he]
  · exact SesMove.failed (by decide) (.drawRead hrun)
  · exact SesMove.failed (by decide) (.withRx hrun r)
  · exact fun t hx => reply_move hat hw hlen hdec hx
  · exact replyFail_move hat.1 hw hlen hdec
  · exact SesMove.failed (by decide) (.withRx hrun r)
  · exact SesMove.waitsOn hat.1 hw hshort

/-- Everything a step that reads can do. -/
theorem u3Read_move {s : State} (hread : u3Fetch s = .ok .read) : LeadsToMove s (u3Read s) := by
  obtain hidle | ⟨hat, hact⟩ := u3Fetch_cases hread
  · cases hidle
  unfold u3Read
  by_cases h1 : s.u3.sesStep = .dScan1
  · rw [if_pos h1]; exact scanRead_move .first (h1 ▸ hat)
  rw [if_neg h1]
  by_cases h2 : s.u3.sesStep = .dScan2
  · rw [if_pos h2]; exact scanRead_move .second (h2 ▸ hat)
  rw [if_neg h2]
  cases hw : waitOf s.par s.u3.sesStep with
  | some w =>
    have hphase := waitAction_eq_read (Except.ok.inj ((u3ActionAt_wait hw).symm.trans hact))
    exact waitRead_move ⟨hat, hphase⟩ hw
  | none => exact SesMove.stayed

/-! ## U3's turn -/

/-- Everything U3's turn can do (R161). -/
theorem u3Turn_move {s t : State} (h : u3Turn s = .next t) : SesMove s t := by
  unfold u3Turn at h
  cases hf : u3Fetch s with
  | error f => rw [hf] at h; cases h
  | ok act =>
    rw [hf] at h
    cases act with
    | idle => cases h; exact .stayed
    | sleep => cases h; exact u3Sleep_move hf
    | send i => exact u3Send_move hf h
    | read =>
      have hmove := u3Read_move hf
      cases hr : u3Read s with
      | settled t' =>
        rw [hr] at hmove
        simp only [hr] at h
        cases h
        exact hmove
      | reply i s' =>
        rw [hr] at hmove
        simp only [hr] at h
        exact hmove t h

end Sys2Proof.Machine

/-! PROOF. Everything U2 can do, said once: its elementary moves (41_hex_parser.md R120 to R141) as an inductive
relation, and the lemmas that read HEX.CHAR and HEX.END as short runs of them. Every invariant of U2 is a case analysis
over `HexMove`. -/

namespace Sys2Proof.Machine

/-- The elementary moves of U2. -/
inductive HexMove (par : Params) (u : HexUnit) : HexUnit → Prop
  | colon (hseek : u.hxState = .seek) :
      HexMove par u { u with recIndex := bump u.recIndex, line := [0x3A], hxState := .collect }
  | counted (hrun : u.hxState ≠ .error) : HexMove par u { u with lineNo := bump u.lineNo }
  | stored (c : Byte) (hcollect : u.hxState = .collect) (hroom : u.line.length < par.lineMax) :
      HexMove par u { u with line := u.line ++ [c] }
  | failed {code : HexCode} {val : Byte} {exp obs : Word32} (hcode : code ≠ .noError) (htotal : code ≠ .totalMismatch) :
      HexMove par u (hexError code val exp obs u)
  | recordFailed {code : HexCode} {val : Byte} {exp obs : Word32} {sum : Byte}
      (hcollect : u.hxState = .collect) (hcode : code ≠ .noError)
      (htotal : code = .totalMismatch → u.image.length ≠ u.cursor.toNat) :
      HexMove par u (hexError code val exp obs (afterDecode sum u))
  | data {address : Word16} {payload : List Byte} {sum : Byte} (hcollect : u.hxState = .collect)
      (habs : u.curOff.toNat + address.toNat = u.cursor.toNat) (hlen : payload.length ≤ 255)
      (hcap : u.cursor.toNat + payload.length ≤ par.imageCapacity.toNat) :
      HexMove par u
        { afterDecode sum u with
          image := memWriteBytes u.image u.cursor.toNat payload, cursor := toU32 (u.cursor.toNat + payload.length),
          hxState := .seek }
  | extAddr {p0 p1 : Byte} {sum : Byte} (hcollect : u.hxState = .collect) (hoff : extOffset p0 p1 = u.cursor) :
      HexMove par u { afterDecode sum u with curOff := extOffset p0 p1, hxState := .seek }
  | eof {sum : Byte} (hcollect : u.hxState = .collect) (htotal : u.image.length = u.cursor.toNat) :
      HexMove par u { afterDecode sum u with hxState := .done }

/-! ## A completed line -/

/-- U2 goes back to SEEK from COLLECT. -/
theorem backToSeek_of_collect {u : HexUnit} (h : u.hxState = .collect) : backToSeek u = { u with hxState := .seek } :=
  if_pos h

/-- A record that ended the parse keeps U2 where it is. -/
theorem backToSeek_of_ne {u : HexUnit} (h : u.hxState ≠ .collect) : backToSeek u = u :=
  if_neg h

/-- A record is refused for its checksum, or its builder decides the move (R133, R134). -/
theorem acceptRecord_move {par : Params} {tt : Byte} {address : Word16} {payload : List Byte} {cc : Byte}
    {build : HexUnit → HexUnit} {u : HexUnit} (hbuild : ∀ sum, HexMove par u (backToSeek (build (afterDecode sum u)))) :
    HexMove par u (acceptRecord par tt address payload cc build u) := by
  obtain ⟨-, -, he⟩ | ⟨-, he⟩ := acceptRecord_cases par tt address payload cc build u
  · rw [he]; exact .failed (by decide) (by decide)
  · rw [he]; exact hbuild _

/-- Everything a decoded Data record can do (R135, R136). -/
theorem recordData_move {par : Params} {address : Word16} {payload : List Byte} {cc : Byte} {u : HexUnit}
    (hcollect : u.hxState = .collect) (hlen : payload.length ≤ 255) :
    HexMove par u (recordData par address payload cc u) := by
  refine acceptRecord_move fun sum => ?_
  obtain ⟨-, he⟩ | ⟨-, -, he⟩ | ⟨habs, hcap, he⟩ := buildData_cases par address payload (afterDecode sum u)
  · rw [he, backToSeek_of_ne (by simp)]; exact .recordFailed hcollect (by decide) nofun
  · rw [he, backToSeek_of_ne (by simp)]; exact .recordFailed hcollect (by decide) nofun
  · rw [he, backToSeek_of_collect (by simpa using hcollect)]; exact .data hcollect habs hlen hcap

/-- Everything a decoded EndOfFile record can do (R138 to R140). -/
theorem recordEof_move {par : Params} {address : Word16} {payload : List Byte} {cc : Byte} {u : HexUnit}
    (hcollect : u.hxState = .collect) : HexMove par u (recordEof par address payload cc u) := by
  refine acceptRecord_move fun sum => ?_
  obtain ⟨htotal, he⟩ | ⟨-, -, -, he⟩ | ⟨htotal, -, he⟩ := buildEof_cases par (afterDecode sum u)
  · rw [he, backToSeek_of_ne (by simp)]; exact .recordFailed hcollect (by decide) fun _ => htotal
  · rw [he, backToSeek_of_ne (by simp)]; exact .recordFailed hcollect (by decide) nofun
  · rw [he, backToSeek_of_ne (by simp)]; exact .eof hcollect htotal

/-- Everything a decoded ExtendedAddress record can do (R137). -/
theorem recordExtAddr_move {par : Params} {address : Word16} {payload : List Byte} {cc : Byte} {u : HexUnit}
    (hcollect : u.hxState = .collect) : HexMove par u (recordExtAddr par address payload cc u) := by
  refine acceptRecord_move fun sum => ?_
  obtain ⟨-, he⟩ | ⟨p0, p1, rest, -, ⟨-, he⟩ | ⟨hoff, he⟩⟩ := buildExtAddr_cases payload (afterDecode sum u)
  · rw [he, backToSeek_of_ne (by simp)]; exact .recordFailed hcollect (by decide) nofun
  · rw [he, backToSeek_of_ne (by simp)]; exact .recordFailed hcollect (by decide) nofun
  · rw [he, backToSeek_of_collect (by simpa using hcollect)]; exact .extAddr hcollect hoff

/-- Every other record is an error (R141). -/
theorem recordUnsupported_move {par : Params} {tt : Byte} {address : Word16} {payload : List Byte} {cc : Byte}
    {u : HexUnit} (hcollect : u.hxState = .collect) : HexMove par u (recordUnsupported par tt address payload cc u) := by
  refine acceptRecord_move fun sum => ?_
  rw [backToSeek_of_ne (by simp [buildUnsupported])]
  exact .recordFailed hcollect (by decide) nofun

/-- Everything ProcessLine can do with the line it has collected (R134). -/
theorem processLine_move {par : Params} {u : HexUnit} (hcollect : u.hxState = .collect) :
    HexMove par u (processLine par u) := by
  obtain ⟨e, -, he⟩ | ⟨r, hdec, he⟩ := processLine_cases par u
  · rw [he]
    cases e <;> exact .failed (by decide) (by decide)
  · rw [he]
    unfold runRecord
    split
    · exact recordData_move hcollect (decodeLine_payload_length _ _ _ hdec)
    · exact recordEof_move hcollect
    · exact recordExtAddr_move hcollect
    · exact recordUnsupported_move hcollect

/-! ## Characters and the end of the text -/

/-- A run of U2's elementary moves. -/
abbrev HexMoves (par : Params) : HexUnit → HexUnit → Prop := Relation.ReflTransGen (HexMove par)

/-- What HEX.CHAR does in every state of U2 is a run of elementary moves (R120 to R123). -/
theorem hexCharUnit_moves (par : Params) (c : Byte) (u : HexUnit) : HexMoves par u (hexCharUnit par c u) := by
  unfold hexCharUnit
  split
  · rename_i hseek
    unfold seekChar
    split
    · exact .single (.colon hseek)
    · split
      · exact .single (.counted (by simp [hseek]))
      · exact .refl
  · rename_i hcollect
    have hline : HexMove par u (processLine par u) := processLine_move hcollect
    obtain ⟨-, he⟩ | ⟨-, -, he⟩ | ⟨-, hrun, he⟩ | ⟨-, -, -, he⟩ | ⟨-, -, hroom, he⟩ := collectChar_cases par c u
    all_goals rw [he]
    · exact .single hline
    · exact .single hline
    · exact .tail (.single hline) (.counted hrun)
    · exact .single (.failed (by decide) (by decide))
    · exact .single (.stored c hcollect hroom)
  · exact .refl
  · exact .refl

/-- What HEX.END does in every state of U2 is a run of elementary moves (R123, R124). -/
theorem hexEndUnit_moves (par : Params) (u : HexUnit) : HexMoves par u (hexEndUnit par u) := by
  have hmissing : ∀ v, HexMove par v (missingEof v) := fun v => .failed (by decide) (by decide)
  cases hstate : u.hxState with
  | seek =>
    simp only [hexEndUnit, hstate]
    exact .single (hmissing u)
  | collect =>
    have hline : HexMove par u (processLine par u) := processLine_move hstate
    obtain ⟨-, he⟩ | ⟨-, -, he⟩ := hexEndUnit_collect par u hstate
    · rw [he]; exact .single hline
    · rw [he]; exact .tail (.single hline) (hmissing _)
  | done | error =>
    simp only [hexEndUnit, hstate]
    exact .refl

/-- A final image takes no character (R123; 20_memory.md R54). -/
theorem hexCharUnit_of_done {par : Params} {c : Byte} {u : HexUnit} (h : u.hxState = .done) :
    hexCharUnit par c u = u := by
  simp only [hexCharUnit, h]

/-- A final image is not ended again (R123; 20_memory.md R54). -/
theorem hexEndUnit_of_done {par : Params} {u : HexUnit} (h : u.hxState = .done) : hexEndUnit par u = u := by
  simp only [hexEndUnit, h]

end Sys2Proof.Machine

/-! PROOF. Everything a step can do, said once: the control words, and the moves of the schedule (20_memory.md R59);
then the two packages by which an invariant of U2 or of U3 follows from its moves. -/

namespace Sys2Proof.Machine

/-! ## Control words -/

/-- Everything a control word can do (30_encoding.md R70 to R74). -/
inductive WordMove (w : Word16) (s : State) : State → Prop
  | refused {e : CwError} (hdec : decodeCw w = .error e) : WordMove w s (refuseWord s)
  | crcInit (hw : w = 0x0100) : WordMove w s { s with crcH := Config.crcSeed }
  | crcUpdate (hop : cwOp w = 0x02) : WordMove w s { s with crcH := crcStep s.par s.crcH (cwData w) }
  | crcResult (hop : cwOp w = 0x03) : WordMove w s s
  | hexChar (hop : cwOp w = 0x10) : WordMove w s { s with u2 := hexCharUnit s.par (cwData w) s.u2 }
  | hexEnd (hop : cwOp w = 0x11) : WordMove w s { s with u2 := hexEndUnit s.par s.u2 }
  | sesStart {t : State} (hop : cwOp w = 0x20) (hstart : execSesStart s = .next t) : WordMove w s t

/-- A control word is its two fields (R70). -/
theorem cwOp_append_cwData (w : Word16) : cwOp w ++ cwData w = w := by
  apply BitVec.eq_of_toNat_eq
  simp only [cwOp, cwData, BitVec.toNat_append, BitVec.extractLsb'_toNat]
  rw [← Nat.shiftLeft_add_eq_or_of_lt (by omega), Nat.shiftLeft_eq, Nat.shiftRight_eq_div_pow]
  omega

/-- An operation without an operand decodes only with data 0 (R72). -/
theorem cwPlain_ok {op data : Byte} {i j : Instr} (h : cwPlain op data i = .ok j) : data = 0 ∧ j = i := by
  unfold cwPlain at h
  split at h
  · cases h; exact ⟨by assumption, rfl⟩
  · cases h

/-- The operation of a word that decodes (R71). -/
theorem decodeCw_cases {w : Word16} {i : Instr} (h : decodeCw w = .ok i) :
    (w = 0x0100 ∧ i = .crcInit) ∨ (cwOp w = 0x02 ∧ i = .crcUpdate (cwData w)) ∨ (cwOp w = 0x03 ∧ i = .crcResult) ∨
      (cwOp w = 0x10 ∧ i = .hexChar (cwData w)) ∨ (cwOp w = 0x11 ∧ i = .hexEnd) ∨
      (cwOp w = 0x20 ∧ i = .sesStart) := by
  simp only [decodeCw] at h
  split at h
  · rename_i hop
    obtain ⟨hdata, rfl⟩ := cwPlain_ok h
    refine .inl ⟨?_, rfl⟩
    rw [← cwOp_append_cwData w, hop, hdata]
    rfl
  split at h
  · rename_i hop; cases h; exact .inr (.inl ⟨hop, rfl⟩)
  split at h
  · rename_i hop; exact .inr (.inr (.inl ⟨hop, (cwPlain_ok h).2⟩))
  split at h
  · rename_i hop; cases h; exact .inr (.inr (.inr (.inl ⟨hop, rfl⟩)))
  split at h
  · rename_i hop; exact .inr (.inr (.inr (.inr (.inl ⟨hop, (cwPlain_ok h).2⟩))))
  split at h
  · rename_i hop; exact .inr (.inr (.inr (.inr (.inr ⟨hop, (cwPlain_ok h).2⟩))))
  · cases h

/-- Everything a control word can do. -/
theorem wordStep_move {w : Word16} {s t : State} (h : wordStep w s = .next t) : WordMove w s t := by
  unfold wordStep at h
  cases hdec : decodeCw w with
  | error e =>
    rw [hdec] at h
    cases h
    exact .refused hdec
  | ok i =>
    rw [hdec] at h
    obtain ⟨hw, rfl⟩ | ⟨hop, rfl⟩ | ⟨hop, rfl⟩ | ⟨hop, rfl⟩ | ⟨hop, rfl⟩ | ⟨hop, rfl⟩ := decodeCw_cases hdec
    · cases h; exact .crcInit hw
    · cases h; exact .crcUpdate hop
    · cases h; exact .crcResult hop
    · cases h; exact .hexChar hop
    · cases h; exact .hexEnd hop
    · exact .sesStart hop h

/-! ## Steps -/

/-- A schedule that is empty has no move to take. -/
theorem withEvents_nil {s : State} (h : s.env.events = []) : withEvents [] s = s := by
  unfold withEvents
  rw [← h]

/-- Everything a step can be: RST, a change of EXPECTED_KIND, a control word, or U3's turn (R59). -/
theorem step_cases {s t : State} (h : step s = .next t) :
    (∃ rest, s.env.events = .rst :: rest ∧ t = applyReset (withEvents rest s)) ∨
    (∃ k rest, s.env.events = .expect k :: rest ∧ t = setExpected k (withEvents rest s)) ∨
    (∃ w rest, s.env.events = .word w :: rest ∧ WordMove w (withEvents rest s) t) ∨
    ∃ rest, u3Next s rest ∧ SesMove (withEvents rest s) t := by
  unfold step at h
  split at h
  · rename_i hev
    refine .inr (.inr (.inr ⟨[], .inr ⟨hev, rfl⟩, ?_⟩))
    rw [withEvents_nil hev]
    exact u3Turn_move h
  · rename_i w rest hev
    exact .inr (.inr (.inl ⟨w, rest, hev, wordStep_move h⟩))
  · rename_i rest hev
    cases h
    exact .inl ⟨rest, hev, rfl⟩
  · rename_i k rest hev
    cases h
    exact .inr (.inl ⟨k, rest, hev, rfl⟩)
  · rename_i rest hev
    exact .inr (.inr (.inr ⟨rest, .inl hev, u3Turn_move h⟩))

/-- The same for a step that is not RST. -/
theorem step_cases_of_noReset {s t : State} (hno : noReset s) (h : step s = .next t) :
    (∃ k rest, s.env.events = .expect k :: rest ∧ t = setExpected k (withEvents rest s)) ∨
    (∃ w rest, s.env.events = .word w :: rest ∧ WordMove w (withEvents rest s) t) ∨
    ∃ rest, u3Next s rest ∧ SesMove (withEvents rest s) t := by
  obtain ⟨rest, hev, -⟩ | hcases := step_cases h
  · exact absurd hev (hno rest)
  · exact hcases

/-! ## What the moves leave unchanged -/

/-- U3 writes neither U1 nor U2, neither a parameter nor the refused mark (10_state.md R22, R23; 20_memory.md R64). -/
theorem SesMove.frame {s t : State} (h : SesMove s t) :
    t.par = s.par ∧ t.u2 = s.u2 ∧ t.crcH = s.crcH ∧ t.refused = s.refused := by
  cases h with
  | failed _ hfrom => exact ⟨hfrom.par, hfrom.u2, hfrom.crcH, hfrom.refused⟩
  | _ => simp

/-- SES.START writes U3 only (42_session.md R160). -/
theorem execSesStart_frame {s t : State} (h : execSesStart s = .next t) :
    t.par = s.par ∧ t.u2 = s.u2 ∧ t.crcH = s.crcH ∧ t.refused = s.refused :=
  (execSesStart_move h).frame

/-- No control word writes a parameter. -/
theorem WordMove.par_eq {w : Word16} {s t : State} (h : WordMove w s t) : t.par = s.par := by
  cases h with
  | sesStart _ hstart => exact (execSesStart_frame hstart).1
  | _ => rfl

/-- A control word leaves U2 as it was, or takes it through a run of its moves. -/
theorem WordMove.hexMoves {w : Word16} {s t : State} (h : WordMove w s t) : HexMoves s.par s.u2 t.u2 := by
  cases h with
  | hexChar => exact hexCharUnit_moves ..
  | hexEnd => exact hexEndUnit_moves ..
  | sesStart _ hstart => rw [(execSesStart_frame hstart).2.1]
  | _ => exact .refl

/-- A control word leaves a final image as it was (20_memory.md R54). -/
theorem WordMove.u2_of_done {w : Word16} {s t : State} (h : WordMove w s t) (hdone : s.u2.hxState = .done) :
    t.u2 = s.u2 := by
  cases h with
  | hexChar => exact hexCharUnit_of_done hdone
  | hexEnd => exact hexEndUnit_of_done hdone
  | sesStart _ hstart => exact (execSesStart_frame hstart).2.1
  | _ => rfl

/-- A control word leaves U3 as it was, or is SES.START. -/
theorem WordMove.u3_cases {w : Word16} {s t : State} (h : WordMove w s t) : t.u3 = s.u3 ∨ SesMove s t := by
  cases h with
  | sesStart _ hstart => exact .inr (execSesStart_move hstart)
  | _ => exact .inl rfl

/-! ## The packages -/

/-- A property of the parameters and U2 that holds after RST and that every elementary move of U2 keeps is kept by every
step. -/
theorem step_keeps_hex {P : State → Prop} (hframe : ∀ s t, t.par = s.par → t.u2 = s.u2 → P s → P t)
    (hreset : ∀ s, P (applyReset s)) (hmove : ∀ s u, HexMove s.par s.u2 u → P s → P { s with u2 := u })
    {s t : State} (h : step s = .next t) (hs : P s) : P t := by
  obtain ⟨rest, -, rfl⟩ | ⟨k, rest, -, rfl⟩ | ⟨w, rest, -, hword⟩ | ⟨rest, -, hses⟩ := step_cases h
  · exact hreset _
  · exact hframe s _ rfl rfl hs
  · have hmoves : ∀ u, HexMoves s.par s.u2 u → P { s with u2 := u } := fun u hu => by
      induction hu with
      | refl => exact hs
      | @tail v _ _ hm ih => exact hmove { s with u2 := v } _ hm ih
    exact hframe { s with u2 := t.u2 } t hword.par_eq rfl (hmoves _ hword.hexMoves)
  · obtain ⟨hpar, hu2, -, -⟩ := hses.frame
    exact hframe s t hpar hu2 hs

/-- A property of the parameters, U3 and a final image that holds after RST and that every move of U3 keeps is kept by
every step. -/
theorem step_keeps_ses {P : State → Prop}
    (hframe : ∀ s t, t.par = s.par → t.u3 = s.u3 → (s.u2.hxState = .done → t.u2 = s.u2) → P s → P t)
    (hreset : ∀ s, P (applyReset s)) (hmove : ∀ s t, SesMove s t → P s → P t)
    {s t : State} (h : step s = .next t) (hs : P s) : P t := by
  have htaken : ∀ rest, P (withEvents rest s) := fun rest => hframe s _ rfl rfl (fun _ => rfl) hs
  obtain ⟨rest, -, rfl⟩ | ⟨k, rest, -, rfl⟩ | ⟨w, rest, -, hword⟩ | ⟨rest, -, hses⟩ := step_cases h
  · exact hreset _
  · exact hframe s _ rfl rfl (fun _ => rfl) hs
  · obtain hu3 | hses := hword.u3_cases
    · exact hframe s t hword.par_eq hu3 hword.u2_of_done hs
    · exact hmove _ t hses (htaken rest)
  · exact hmove _ t hses (htaken rest)

end Sys2Proof.Machine

/-! PROOF. The invariants of U2: the image (10_state.md R29; 41_hex_parser.md R139), the bounds (R143), the line buffer
(10_state.md R26) and the error register (R32). Each is checked on U2's elementary moves and on RST. -/

namespace Sys2Proof.Machine

/-! ## The image -/

/-- A payload accepted at the cursor extends an image that ends there (20_memory.md R52, R53). -/
theorem imageInv_data {s : State} {payload : List Byte} {u : HexUnit}
    (himage : u.image = memWriteBytes s.u2.image s.u2.cursor.toNat payload)
    (hcursor : u.cursor = toU32 (s.u2.cursor.toNat + payload.length))
    (hcap : s.u2.cursor.toNat + payload.length ≤ s.par.imageCapacity.toNat) (h : imageInv s) :
    imageInv { s with u2 := u } := by
  have hfit : s.u2.cursor.toNat + payload.length < 2 ^ 32 := lt_of_le_of_lt hcap s.par.imageCapacity.isLt
  have hnat : u.cursor.toNat = s.u2.cursor.toNat + payload.length := by rw [hcursor, toU32_toNat _ hfit]
  refine ⟨?_, ?_⟩
  · show u.image.map Prod.fst = List.range u.cursor.toNat
    rw [himage, hnat, memWriteBytes_addresses payload _ _ h.1]
  · show u.cursor.toNat ≤ s.par.imageCapacity.toNat
    rw [hnat]
    exact hcap

/-- Under the image invariant the image has as many cells as the cursor says (R139). -/
theorem image_length_of_imageInv {s : State} (h : imageInv s) : s.u2.image.length = s.u2.cursor.toNat := by
  simpa using congrArg List.length h.1

/-- Every elementary move of U2 keeps the image invariant, and none raises TOTAL_MISMATCH under it (R139, R241). -/
theorem imageInv_move {s : State} {u : HexUnit} (h : HexMove s.par s.u2 u)
    (hs : imageInv s ∧ s.u2.hxCode ≠ .totalMismatch) :
    imageInv { s with u2 := u } ∧ u.hxCode ≠ .totalMismatch := by
  obtain ⟨himage, hcode⟩ := hs
  cases h with
  | failed _ htotal => exact ⟨himage, htotal⟩
  | recordFailed _ _ htotal => exact ⟨himage, fun e => htotal e (image_length_of_imageInv himage)⟩
  | data _ _ _ hcap => exact ⟨imageInv_data rfl rfl hcap himage, hcode⟩
  | colon | counted | stored | extAddr | eof => exact ⟨himage, hcode⟩

/-- RST leaves an empty image with the cursor at 0 (10_state.md R45). -/
theorem imageInv_applyReset (s : State) : imageInv (applyReset s) :=
  ⟨by simp [hexReset], by simp [hexReset]⟩

/-- Settles O50: every elementary move of U2 keeps the image invariant, because a payload goes to the first free
addresses. -/
theorem imageInvariantKept : Obligations.ImageInvariantKept := by
  intro s t himage hcode h
  refine step_keeps_hex (P := fun s => imageInv s ∧ s.u2.hxCode ≠ .totalMismatch) ?_ ?_ ?_ h ⟨himage, hcode⟩
  · intro s t hpar hu2 hs
    simpa only [imageInv, hpar, hu2] using hs
  · exact fun s => ⟨imageInv_applyReset s, by simp [hexReset]⟩
  · exact fun s u hm hs => imageInv_move hm hs

/-! ## The bounds -/

/-- The offset of a type 02 record is 16 times its two bytes (30_encoding.md R81). -/
theorem extOffset_toNat (p0 p1 : Byte) : (extOffset p0 p1).toNat = 16 * (256 * p0.toNat + p1.toNat) := by
  have h0 := p0.isLt
  have h1 := p1.isLt
  simp only [extOffset, BitVec.toNat_add, BitVec.toNat_shiftLeft, BitVec.toNat_setWidth, Nat.shiftLeft_eq]
  omega

/-- Every elementary move of U2 keeps its bounds: a Data record ends at most 0xFFFF + 255 past the offset
(41_hex_parser.md R143). -/
theorem boundsInv_move {s : State} {u : HexUnit} (h : HexMove s.par s.u2 u) (hs : boundsInv s) :
    boundsInv { s with u2 := u } := by
  cases h with
  | @data address payload _ _ habs hlen hcap =>
    obtain ⟨hoff, halign, -⟩ := hs
    have haddr := address.isLt
    have hle : s.u2.cursor.toNat + payload.length ≤ 0x1100EE := by omega
    refine ⟨hoff, halign, ?_⟩
    show (toU32 (s.u2.cursor.toNat + payload.length)).toNat ≤ 0x1100EE
    rwa [toU32_toNat _ (by omega)]
  | @extAddr p0 p1 _ _ _ =>
    have hnat := extOffset_toNat p0 p1
    have h0 := p0.isLt
    have h1 := p1.isLt
    refine ⟨?_, ?_, hs.2.2⟩
    · show (extOffset p0 p1).toNat ≤ 0xFFFF0
      omega
    · show (extOffset p0 p1).toNat % 16 = 0
      omega
  | colon | counted | stored | failed | recordFailed | eof => exact hs

/-- RST leaves U2 within its bounds. -/
theorem boundsInv_applyReset (s : State) : boundsInv (applyReset s) := by
  simp [boundsInv, hexReset]

/-! ## The line buffer -/

/-- A line has room for its ':' (70_reset_and_hazards.md R274). -/
theorem lineMax_pos (par : Params) : 1 ≤ par.lineMax := by
  have h1 := par.minLineLen_ge
  have h2 := par.minLineLen_le
  omega

/-- Every elementary move of U2 keeps the form of the line buffer: a collected line grows from its ':' and is cleared
when its record is run (10_state.md R26). -/
theorem lineInv_move {s : State} {u : HexUnit} (h : HexMove s.par s.u2 u) (hs : lineInv s) :
    lineInv { s with u2 := u } := by
  obtain ⟨hlen, hempty, hhead⟩ := hs
  cases h with
  | colon hseek => exact ⟨lineMax_pos s.par, by simp, fun _ => rfl⟩
  | counted _ => exact ⟨hlen, hempty, hhead⟩
  | stored c hcollect hroom =>
    refine ⟨by simpa using hroom, by simp [hcollect], fun _ => ?_⟩
    simp [hhead hcollect]
  | failed _ _ => exact ⟨hlen, by simp, by simp⟩
  | recordFailed => exact ⟨by simp, by simp, by simp⟩
  | data | extAddr | eof => exact ⟨by simp, by simp, by simp⟩

/-- RST empties the line buffer. -/
theorem lineInv_applyReset (s : State) : lineInv (applyReset s) := by
  simp [lineInv, hexReset]

/-! ## The error register -/

/-- Every elementary move of U2 keeps the error register's form: the fault entry alone writes it, with an error's code
(10_state.md R32; 60_exceptions.md R231). -/
theorem hexErrorInv_move {s : State} {u : HexUnit} (h : HexMove s.par s.u2 u) (hs : hexErrorInv s) :
    hexErrorInv { s with u2 := u } := by
  cases h with
  | failed hcode _ => simpa [hexErrorInv] using hcode
  | recordFailed _ hcode _ => simpa [hexErrorInv] using hcode
  | colon hstate => simpa [hexErrorInv, hstate] using hs
  | counted hstate => simpa [hexErrorInv, hstate] using hs
  | stored _ hstate _ => simpa [hexErrorInv, hstate] using hs
  | data hstate _ _ _ => simpa [hexErrorInv, hstate] using hs
  | extAddr hstate _ => simpa [hexErrorInv, hstate] using hs
  | eof hstate _ => simpa [hexErrorInv, hstate] using hs

/-- RST clears U2's error register. -/
theorem hexErrorInv_applyReset (s : State) : hexErrorInv (applyReset s) := by
  simp [hexErrorInv, hexReset]

/-- Settles O51: each of the three is kept by every elementary move of U2 and holds after RST. -/
theorem parserInvariantKept : Obligations.ParserInvariantKept := by
  intro s t h
  refine ⟨?_, ?_, ?_⟩
  · refine step_keeps_hex (fun s t _ hu2 hs => ?_) boundsInv_applyReset (fun s u => boundsInv_move) h
    simpa only [boundsInv, hu2] using hs
  · refine step_keeps_hex (fun s t hpar hu2 hs => ?_) lineInv_applyReset (fun s u => lineInv_move) h
    simpa only [lineInv, hpar, hu2] using hs
  · refine step_keeps_hex (fun s t _ hu2 hs => ?_) hexErrorInv_applyReset (fun s u => hexErrorInv_move) h
    simpa only [hexErrorInv, hu2] using hs

end Sys2Proof.Machine

/-! PROOF. The invariants of U3's registers: the fail register (10_state.md R40), the matcher (R34), the wait's
buffer (R37), and the times (R33). Each is checked on U3's moves and on RST. -/

namespace Sys2Proof.Machine

/-! ## The fail register -/

/-- Every move of U3 keeps the fail register's form: the fault entry alone writes it, with an error's code
(60_exceptions.md R230). -/
theorem sesErrorInv_move {s t : State} (h : SesMove s t) (hs : sesErrorInv s) : sesErrorInv t := by
  cases h with
  | stayed => exact hs
  | started hidle _ => simpa [sesErrorInv, hidle] using hs
  | failed hcode _ => simpa [sesErrorInv] using hcode
  | settled hat _ | gap _ hat _ | polled hat _ _ | sentOn _ hat _ | sentAndWaits _ hat _ | sentCrc hat _ _
  | scannedOn _ hat _ | identified _ hat | waitsOn hat _ _ | acknowledged _ hat | signed hat _ _ | sized hat _ _
  | addressed hat _ _ | addressedEmpty hat _ _ | nextBlock hat _ | lastBlock hat _ =>
    have hrun := running_of_atStep hat
    simpa [sesErrorInv, hrun, stepStage_ne_failed] using hs

/-- RST clears U3's fail register. -/
theorem sesErrorInv_applyReset (s : State) : sesErrorInv (applyReset s) := by
  simp [sesErrorInv, sesReset]

/-! ## The matcher -/

/-- The scan points lie in DISCOVERING. -/
theorem discovering_of_scan {a b : SesStep} {s : State} (hab : ScanThenPing a b) (hat : atStep a s) :
    s.u3.sesState = .discovering := by
  cases hab <;> exact hat.1

/-- Every move of U3 keeps the matcher's bounds: it reaches 4 only by the match that ends the scan (R167). -/
theorem matchInv_move {s t : State} (h : SesMove s t) (hs : matchInv s) : matchInv t := by
  cases h with
  | failed _ hfrom => exact ⟨hfrom.matchIdx hs.1, nofun⟩
  | started => exact ⟨Nat.zero_le 4, fun _ => Nat.zero_lt_succ 3⟩
  | scannedOn hab hat hfound =>
    have hlt : (scanBytes s.par.matchRetest s.u3.matchIdx _).1 < 4 :=
      scanBytes_lt _ _ _ (hs.2 (discovering_of_scan hab hat)) hfound
    exact ⟨by simpa using hlt.le, fun _ => by simpa using hlt⟩
  | identified => exact ⟨le_rfl, nofun⟩
  | acknowledged hab _ => exact ⟨by simpa using hs.1, by cases hab <;> nofun⟩
  | signed | sized | addressedEmpty | lastBlock => exact ⟨by simpa using hs.1, nofun⟩
  | stayed | settled | gap | polled | sentOn | sentAndWaits | sentCrc | waitsOn | addressed | nextBlock =>
    simpa [matchInv] using hs

/-- RST sets the matcher to 0. -/
theorem matchInv_applyReset (s : State) : matchInv (applyReset s) := by
  simp [matchInv, sesReset]

/-! ## The wait's buffer -/

/-- Every wait waits for at least one byte (70_reset_and_hazards.md R274 for V_RESP_LEN). -/
theorem waitOf_len_pos {par : Params} {a : SesStep} {w : WaitSpec} (hw : waitOf par a = some w) : 0 < w.len := by
  cases a with
  | verWait => cases hw; exact par.vRespLen_pos
  | sigWait | setdevWait | bsizeWait | xsizeWait | eraseWait | addrWait | blkWait => cases hw; exact Nat.succ_pos _
  | _ => cases hw

/-- A state that stands at no wait has nothing to be short of. -/
theorem waitInv_of_no_wait {s : State} (h : waitOf s.par s.u3.sesStep = none) : waitInv s := by
  intro w hw
  rw [h] at hw
  cases hw

/-- A wait that starts with an empty buffer is short of its reply. -/
theorem waitInv_of_empty {s : State} (h : s.u3.rxbuf = []) : waitInv s := by
  intro w hw
  rw [h]
  exact waitOf_len_pos hw

/-- Every move of U3 keeps a wait's buffer short of its reply: a wait starts empty, a read that does not fill it goes
on, and a read that fills it leaves the wait (42_session.md R164). -/
theorem waitInv_move {s t : State} (h : SesMove s t) (hs : waitInv s) : waitInv t := by
  cases h with
  | stayed => exact hs
  | polled => simpa [waitInv] using hs
  | sentAndWaits | sentCrc => exact waitInv_of_empty (by simp)
  | waitsOn hat hw hshort =>
    intro w' hw'
    have heq : w' = _ := Option.some.inj (hw'.symm.trans (by simpa [hat.2] using hw))
    simpa [heq] using hshort
  | gap hab _ _ => cases hab <;> exact waitInv_of_no_wait rfl
  | sentOn hab _ _ => cases hab <;> exact waitInv_of_no_wait rfl
  | scannedOn hab _ _ => cases hab <;> exact waitInv_of_no_wait rfl
  | acknowledged hab _ => cases hab <;> exact waitInv_of_no_wait rfl
  | sized =>
    refine waitInv_of_no_wait ?_
    rw [goStage_u3_sesStep]
    split <;> rfl
  | started | failed | settled | identified | signed | addressed | addressedEmpty | nextBlock | lastBlock =>
    exact waitInv_of_no_wait rfl

/-- After RST U3 stands at no wait. -/
theorem waitInv_applyReset (s : State) : waitInv (applyReset s) :=
  waitInv_of_no_wait rfl

/-! ## The times -/

/-- A Sleep never moves the time back (20_memory.md R62). -/
theorem le_sleepFor_t (d : Nat) (s : State) : s.u3.t ≤ (sleepFor d s).u3.t := by
  rw [sleepFor_u3_t]
  omega

/-- Every move of U3 keeps the deadlines' starts in the past: a start is set to the present, and time only grows
(10_state.md R33; 20_memory.md R62). -/
theorem timeInv_move {s t : State} (h : SesMove s t) (hs : timeInv s) : timeInv t := by
  obtain ⟨h0, hw⟩ := hs
  cases h with
  | failed _ hfrom => exact ⟨by simpa [hfrom.t, hfrom.t0] using h0, by simpa [hfrom.t, hfrom.wStart] using hw⟩
  | settled => exact ⟨by simp, by simpa using hw.trans (le_sleepFor_t _ s)⟩
  | gap | polled => exact ⟨by simpa using h0.trans (le_sleepFor_t _ s), by simpa using hw.trans (le_sleepFor_t _ s)⟩
  | sentAndWaits | sentCrc => exact ⟨by simpa using h0, by simp⟩
  | _ => exact ⟨by simpa using h0, by simpa using hw⟩

/-- RST sets all times to 0. -/
theorem timeInv_applyReset (s : State) : timeInv (applyReset s) := by
  simp [timeInv, sesReset]

/-- Settles O53: each of the four is kept by every move of U3 and holds after RST. -/
theorem sessionRegistersKept : Obligations.SessionRegistersKept := by
  intro s t h
  refine ⟨?_, ?_, ?_, ?_⟩
  · refine step_keeps_ses (fun s t _ hu3 _ hs => ?_) sesErrorInv_applyReset (fun s t => sesErrorInv_move) h
    simpa only [sesErrorInv, hu3] using hs
  · refine step_keeps_ses (fun s t _ hu3 _ hs => ?_) matchInv_applyReset (fun s t => matchInv_move) h
    simpa only [matchInv, hu3] using hs
  · refine step_keeps_ses (fun s t hpar hu3 _ hs => ?_) waitInv_applyReset (fun s t => waitInv_move) h
    simpa only [waitInv, hpar, hu3] using hs
  · refine step_keeps_ses (fun s t _ hu3 _ hs => ?_) timeInv_applyReset (fun s t => timeInv_move) h
    simpa only [timeInv, hu3] using hs

end Sys2Proof.Machine

/-! PROOF. What a session has established (42_session.md R160 to R176; 43_block_transfer.md R200 to R210), part by part:
the stage, the image, the identity, the block size, the erase size, the blocks. -/

namespace Sys2Proof.Machine

/-! ## The stage -/

/-- Every move of U3 goes to a step in its stage (the table of 10_state.md R36). -/
theorem stageInv_move {s t : State} (h : SesMove s t) (hs : stageInv s) : stageInv t := by
  cases h with
  | stayed => exact hs
  | failed => exact .inr ⟨rfl, rfl⟩
  | polled hat _ _ | waitsOn hat _ _ => exact .inl (by simpa [hat.2] using hat.1)
  | gap hab hat _ => exact .inl (by cases hab <;> simp [hat.1, stepStage])
  | sentOn hab hat _ => exact .inl (by cases hab <;> simp [hat.1, stepStage])
  | sentAndWaits hab hat _ => exact .inl (by cases hab <;> simp [hat.1, stepStage])
  | scannedOn hab hat _ => exact .inl (by cases hab <;> simp [hat.1, stepStage])
  | settled hat _ | sentCrc hat _ _ | addressed hat _ _ | nextBlock hat _ => exact .inl (by simp [hat.1, stepStage])
  | sized => exact .inl (by rw [goStage_u3_sesState, goStage_u3_sesStep]; split <;> rfl)
  | started | identified | acknowledged | signed | addressedEmpty | lastBlock => exact .inl rfl

/-! ## The image of a session -/

/-- U3 has been started where it stands at a step of a stage other than IDLE. -/
theorem started_of_atStep {a : SesStep} {s : State} (hat : atStep a s) (ha : stepStage a ≠ .idle) : started s :=
  ⟨by rw [hat.1]; exact ha, running_of_atStep hat⟩

/-- No wait lies in IDLE. -/
theorem stepStage_wait_ne_idle {par : Params} {a : SesStep} {w : WaitSpec} (hw : waitOf par a = some w) :
    stepStage a ≠ .idle := by
  cases a with
  | stepNone => cases hw
  | _ => decide

/-- Every move of U3 keeps that a started session's image is DONE: SES.START asks for it (R160), and no move of U3
writes U2. -/
theorem imageReadyInv_move {s t : State} (h : SesMove s t) (hs : imageReadyInv s) : imageReadyInv t := by
  intro ht
  rw [h.frame.2.1]
  cases h with
  | stayed => exact hs ht
  | started _ hdone => exact hdone
  | failed => exact absurd rfl ht.2
  | polled hat hw _ | waitsOn hat hw _ => exact hs (started_of_atStep hat (stepStage_wait_ne_idle hw))
  | gap hab hat _ => exact hs (started_of_atStep hat (by cases hab <;> decide))
  | sentOn hab hat _ => exact hs (started_of_atStep hat (by cases hab <;> decide))
  | sentAndWaits hab hat _ => exact hs (started_of_atStep hat (by cases hab <;> decide))
  | scannedOn hab hat _ => exact hs (started_of_atStep hat (by cases hab <;> decide))
  | identified hab hat => exact hs (started_of_atStep hat (by cases hab <;> decide))
  | acknowledged hab hat => exact hs (started_of_atStep hat (by cases hab <;> decide))
  | settled hat _ | sentCrc hat _ _ | signed hat _ _ | sized hat _ _ | addressed hat _ _ | addressedEmpty hat _ _
  | nextBlock hat _ | lastBlock hat _ => exact hs (started_of_atStep hat (by decide))

/-! ## The identity -/

/-- The identity is kept by a move that keeps its registers and enters no identified stage from outside. -/
theorem identityInv_of_eq {s t : State} (hs : identityInv s) (hid : identified t → identified s)
    (hpar : t.par = s.par) (hsig : t.u3.sig = s.u3.sig) (hkind : t.u3.kind = s.u3.kind)
    (hexp : t.u3.expKind = s.u3.expKind) : identityInv t := by
  intro ht
  rw [hpar, hsig, hkind, hexp]
  exact hs (hid ht)

/-- Every move of U3 keeps the identity: only an accepted signature enters DEVICE_CONFIGURED (R170, R171). -/
theorem identityInv_move {s t : State} (h : SesMove s t) (hs : identityInv s) : identityInv t := by
  cases h with
  | signed hat hkind hexp =>
    intro _
    refine ⟨by simpa using hkind.symm, by simp, by simpa using hexp⟩
  | started | failed | identified => intro ht; simp [Machine.identified] at ht
  | acknowledged hab hat =>
    refine identityInv_of_eq hs (fun ht => ?_) (by simp) (by simp) (by simp) (by simp)
    cases hab <;> simp [Machine.identified, hat.1, stepStage]
  | sized hat _ _ | addressedEmpty hat _ _ | lastBlock hat _ =>
    refine identityInv_of_eq hs (fun ht => ?_) (by simp) (by simp) (by simp) (by simp)
    simp [Machine.identified, hat.1, stepStage]
  | stayed | settled | gap | polled | sentOn | sentAndWaits | sentCrc | scannedOn | waitsOn | addressed | nextBlock =>
    exact identityInv_of_eq hs (by simp [Machine.identified]) (by simp) (by simp) (by simp) (by simp)

/-! ## The block size -/

/-- Every move of U3 keeps the negotiated block size: only a nonzero one enters FLASH_CLEARED (R174). -/
theorem blockSizeInv_move {s t : State} (h : SesMove s t) (hs : blockSizeInv s) : blockSizeInv t := by
  cases h with
  | sized _ hbs _ => exact fun _ => hbs
  | started | failed | identified | signed => intro ht; simp [configured] at ht
  | acknowledged hab hat =>
    intro ht
    cases hab with
    | erase => simpa using hs (.inl hat.1)
    | xsize => simpa using hs (.inl hat.1)
    | setdev | ver => simp [configured, stepStage] at ht
  | addressedEmpty _ hbs _ => exact fun _ => by simpa using hbs
  | lastBlock hat _ => exact fun _ => by simpa using hs (.inr (.inl hat.1))
  | stayed | settled | gap | polled | sentOn | sentAndWaits | sentCrc | scannedOn | waitsOn | addressed | nextBlock =>
    simpa [blockSizeInv, configured] using hs

/-! ## The erase size -/

/-- The erase decision depends on the parameters and the kind alone (R174). -/
theorem kindNeedsErase_of_eq {s t : State} (hpar : t.par = s.par) (hkind : t.u3.kind = s.u3.kind) :
    kindNeedsErase t = kindNeedsErase s := by
  simp only [kindNeedsErase, hpar, hkind]

/-- A state at no step of `'X'` says nothing of its kind. -/
theorem eraseKindInv_of_ne {t : State} (h1 : t.u3.sesStep ≠ .xsizeSend) (h2 : t.u3.sesStep ≠ .xsizeWait) :
    eraseKindInv t :=
  fun h => absurd h (by simp [h1, h2])

/-- Every move of U3 keeps that `'X'` is only for the kinds that need it: the step is entered by the erase decision
(R174, R175). -/
theorem eraseKindInv_move {s t : State} (h : SesMove s t) (hs : eraseKindInv s) : eraseKindInv t := by
  cases h with
  | stayed => exact hs
  | polled | waitsOn =>
    intro hstep hstage
    rw [kindNeedsErase_of_eq (s := s) (by simp) (by simp)]
    exact hs (by simpa using hstep) (by simpa using hstage)
  | sentAndWaits hab hat _ =>
    cases hab with
    | xsize =>
      intro _ _
      rw [kindNeedsErase_of_eq (s := s) (by simp) (by simp)]
      exact hs (.inl hat.2) hat.1
    | _ => exact eraseKindInv_of_ne (by simp) (by simp)
  | @sized _ _ k _ _ hkind =>
    intro hstep _
    have hneeds : needsEraseSize s.par k = true := by
      by_contra hno
      simp [hno] at hstep
    simpa [kindNeedsErase, hkind] using hneeds
  | gap hab _ _ => cases hab <;> exact eraseKindInv_of_ne (by simp) (by simp)
  | sentOn hab _ _ => cases hab <;> exact eraseKindInv_of_ne (by simp) (by simp)
  | scannedOn hab _ _ => cases hab <;> exact eraseKindInv_of_ne (by simp) (by simp)
  | acknowledged hab _ => cases hab <;> exact eraseKindInv_of_ne (by simp) (by simp)
  | started | failed | settled | sentCrc | identified | signed | addressed | addressedEmpty | nextBlock | lastBlock =>
    exact eraseKindInv_of_ne (by simp) (by simp)

/-! ## The blocks -/

/-- The block count never exceeds the number of bytes, so it fits its register (43_block_transfer.md R201). -/
theorem blockCount_le {total blockSize : Nat} (h : 0 < blockSize) : blockCount total blockSize ≤ total := by
  unfold blockCount
  rw [Nat.div_le_iff_le_mul_add_pred h]
  have := Nat.mul_le_mul_right total h
  omega

/-- The stored block count is the exact one (R201). -/
theorem toU32_blockCount_toNat {s : State} (hbs : s.u3.blockSize ≠ 0) :
    (toU32 (blockCount (totalBytes s) s.u3.blockSize.toNat)).toNat =
      blockCount (totalBytes s) s.u3.blockSize.toNat := by
  have hpos : 0 < s.u3.blockSize.toNat := by
    rw [Nat.pos_iff_ne_zero]
    exact fun e => hbs (BitVec.eq_of_toNat_eq e)
  exact toU32_toNat _ (lt_of_le_of_lt (blockCount_le hpos) s.u2.cursor.isLt)

/-- A block index below the count has an exact successor (R207). -/
theorem bump_toNat_of_lt {x n : Word32} (h : x < n) : (bump x).toNat = x.toNat + 1 := by
  have hlt : x.toNat < n.toNat := h
  exact bump_toNat x (by have := n.isLt; omega)

/-- The blocks are kept by a move that keeps their registers and enters neither a block nor COMPLETE from outside. -/
theorem blockInv_of_eq {s t : State} (hs : blockInv s) (hin : inBlock t → inBlock s)
    (hcomplete : t.u3.sesState = .complete → s.u3.sesState = .complete) (hu2 : t.u2 = s.u2)
    (hsize : t.u3.blockSize = s.u3.blockSize) (hblk : t.u3.blk = s.u3.blk) (hn : t.u3.nblocks = s.u3.nblocks) :
    blockInv t := by
  have htotal : totalBytes t = totalBytes s := by simp only [totalBytes, hu2]
  simp only [blockInv, hsize, hblk, hn, htotal]
  exact ⟨fun ht => hs.1 (hin ht), fun ht => hs.2 (hcomplete ht)⟩

/-- Outside a block and COMPLETE there is nothing to keep. -/
theorem blockInv_of_ne {t : State} (h1 : t.u3.sesState ≠ .transferring) (h2 : t.u3.sesState ≠ .complete) :
    blockInv t :=
  ⟨fun h => absurd h.1 h1, fun h => absurd h h2⟩

/-- Every move of U3 keeps the block count and the block index: the count is computed at the first block, and the index
counts up to it (R201, R207, R209). -/
theorem blockInv_move {s t : State} (h : SesMove s t) (hs : blockInv s) : blockInv t := by
  cases h with
  | addressed hat hbs hpos =>
    have hn := toU32_blockCount_toNat hbs
    refine ⟨fun _ => ⟨?_, by simpa [totalBytes] using hn⟩, fun ht => by simp [hat.1, stepStage] at ht⟩
    show (0 : Word32).toNat < (toU32 _).toNat
    rw [hn]
    exact hpos
  | addressedEmpty hat hbs hzero =>
    refine ⟨fun ht => by simp [inBlock] at ht, fun _ => ⟨?_, ?_⟩⟩
    · show (0 : Word32) = toU32 0
      exact BitVec.eq_of_toNat_eq (by rw [toU32_toNat 0 (by decide)]; rfl)
    · have hnat : (toU32 0).toNat = 0 := toU32_toNat 0 (by decide)
      simpa [totalBytes, hnat] using hzero.symm
  | nextBlock hat hlt =>
    have hn := (hs.1 ⟨hat.1, .inr (.inr (.inr hat.2))⟩).2
    exact ⟨fun _ => ⟨by simpa using hlt, by simpa [totalBytes] using hn⟩, fun ht => by simp [hat.1, stepStage] at ht⟩
  | lastBlock hat hlast =>
    obtain ⟨hblk, hn⟩ := hs.1 ⟨hat.1, .inr (.inr (.inr hat.2))⟩
    have hnat := bump_toNat_of_lt hblk
    have heq : bump s.u3.blk = s.u3.nblocks := by
      have h1 : s.u3.blk.toNat < s.u3.nblocks.toNat := hblk
      have h2 : ¬ (bump s.u3.blk).toNat < s.u3.nblocks.toNat := hlast
      exact BitVec.eq_of_toNat_eq (by omega)
    exact ⟨fun ht => by simp [inBlock] at ht, fun _ => ⟨by simpa using heq, by simpa [totalBytes] using hn⟩⟩
  | sentOn hab hat _ =>
    refine blockInv_of_eq hs (fun ht => ?_) (by simp) (by simp) (by simp) (by simp) (by simp)
    cases hab with
    | header => exact ⟨hat.1, .inl hat.2⟩
    | data => exact ⟨hat.1, .inr (.inl hat.2)⟩
    | resetFrame | ping1 | ping2 | exit => simp [inBlock] at ht
  | sentCrc hat _ _ =>
    exact blockInv_of_eq hs (fun _ => ⟨hat.1, .inr (.inr (.inl hat.2))⟩) (by simp) (by simp) (by simp) (by simp)
      (by simp)
  | stayed | polled | waitsOn =>
    exact blockInv_of_eq hs (by simp [inBlock]) (by simp) (by simp) (by simp) (by simp) (by simp)
  | settled hat _ => exact blockInv_of_ne (by simp [hat.1, stepStage]) (by simp [hat.1, stepStage])
  | gap hab hat _ => cases hab <;> exact blockInv_of_ne (by simp [hat.1, stepStage]) (by simp [hat.1, stepStage])
  | scannedOn hab hat _ =>
    cases hab <;> exact blockInv_of_ne (by simp [hat.1, stepStage]) (by simp [hat.1, stepStage])
  | sentAndWaits hab _ _ =>
    refine blockInv_of_eq hs (fun ht => ?_) (by simp) (by simp) (by simp) (by simp) (by simp)
    cases hab <;> simp [inBlock] at ht
  | acknowledged hab _ =>
    refine blockInv_of_eq hs (fun ht => ?_) (fun ht => ?_) (by simp) (by simp) (by simp) (by simp)
    · cases hab <;> simp [inBlock] at ht
    · cases hab <;> simp [stepStage] at ht
  | started | failed | identified | signed | sized => exact blockInv_of_ne (by simp) (by simp)

/-! ## The session -/

/-- Every move of U3 keeps what a session has established. -/
theorem sessionInv_move {s t : State} (h : SesMove s t) (hs : sessionInv s) : sessionInv t where
  stage := stageInv_move h hs.stage
  imageReady := imageReadyInv_move h hs.imageReady
  identity := identityInv_move h hs.identity
  blockSize := blockSizeInv_move h hs.blockSize
  eraseKind := eraseKindInv_move h hs.eraseKind
  block := blockInv_move h hs.block

/-- RST ends the session. -/
theorem sessionInv_applyReset (s : State) : sessionInv (applyReset s) where
  stage := .inl rfl
  imageReady := fun h => absurd rfl h.1
  identity := by simp [identityInv, identified, sesReset]
  blockSize := by simp [blockSizeInv, configured, sesReset]
  eraseKind := eraseKindInv_of_ne (by simp [sesReset]) (by simp [sesReset])
  block := blockInv_of_ne (by simp [sesReset]) (by simp [sesReset])

/-- Where a block is sent and in COMPLETE the session has been started. -/
theorem started_of_inBlock_or_complete {s : State} (h : inBlock s ∨ s.u3.sesState = .complete) : started s := by
  obtain ⟨hstage, -⟩ | hstage := h <;> simp [started, hstage]

/-- What a session has established does not depend on more than the parameters, U3 and, once it is final, the image. -/
theorem sessionInv_of_eq {s t : State} (hpar : t.par = s.par) (hu3 : t.u3 = s.u3)
    (hdone : s.u2.hxState = .done → t.u2 = s.u2) (hs : sessionInv s) : sessionInv t where
  stage := by simpa only [stageInv, hu3] using hs.stage
  imageReady := by
    intro ht
    have hready := hs.imageReady (by simpa only [started, hu3] using ht)
    rw [hdone hready]
    exact hready
  identity := by simpa only [identityInv, identified, hpar, hu3] using hs.identity
  blockSize := by simpa only [blockSizeInv, configured, hu3] using hs.blockSize
  eraseKind := by simpa only [eraseKindInv, kindNeedsErase, hpar, hu3] using hs.eraseKind
  block := by
    by_cases h : inBlock s ∨ s.u3.sesState = .complete
    · exact blockInv_of_eq hs.block (by simp [inBlock, hu3]) (by simp [hu3])
        (hdone (hs.imageReady (started_of_inBlock_or_complete h))) (by rw [hu3]) (by rw [hu3]) (by rw [hu3])
    · obtain ⟨hin, hcomplete⟩ := not_or.1 h
      refine ⟨fun ht => absurd ?_ hin, fun ht => absurd ?_ hcomplete⟩
      · simpa only [inBlock, hu3] using ht
      · rwa [hu3] at ht

/-- Settles O52: every move of U3 keeps the session invariant, and while a session runs no other move writes what it
speaks of. -/
theorem sessionInvariantKept : Obligations.SessionInvariantKept :=
  fun _ _ hs h =>
    step_keeps_ses (fun _ _ => sessionInv_of_eq) sessionInv_applyReset (fun _ _ => sessionInv_move) h hs

end Sys2Proof.Machine

/-! PROOF. Who writes what: the time and the TX history (10_state.md R42; 20_memory.md R60, R62), the CRC accumulators
(10_state.md R22, R23), and the separation of the units (20_memory.md R59, R64). -/

namespace Sys2Proof.Machine

/-! ## A step by its move -/

/-- A step whose move is RST. -/
theorem step_of_rst {s : State} {rest : List Event} (h : s.env.events = .rst :: rest) :
    step s = .next (applyReset (withEvents rest s)) := by
  simp only [step, h]

/-- A step whose move sets EXPECTED_KIND. -/
theorem step_of_expect {s : State} {k : Option DeviceKind} {rest : List Event}
    (h : s.env.events = .expect k :: rest) : step s = .next (setExpected k (withEvents rest s)) := by
  simp only [step, h]

/-- A step whose move is a control word. -/
theorem step_of_word {s : State} {w : Word16} {rest : List Event} (h : s.env.events = .word w :: rest) :
    step s = wordStep w (withEvents rest s) := by
  simp only [step, h]

/-- A step in which U3 has the turn. -/
theorem step_of_u3Next {s : State} {rest : List Event} (h : u3Next s rest) :
    step s = u3Turn (withEvents rest s) := by
  obtain hev | ⟨hev, rfl⟩ := h
  · simp only [step, hev]
  · simp only [step, hev, withEvents_nil hev]

/-! ## Taking a move from the schedule -/

/-- The schedule is no operand of a chunk. -/
theorem chunk_withEvents (rest : List Event) (s : State) (k : Nat) : chunk (withEvents rest s) k = chunk s k := by
  have hbyte : ∀ a, chunkByte (withEvents rest s) a = chunkByte s a := fun _ => rfl
  have hfrom : ∀ n a, chunkFrom (withEvents rest s) a n = chunkFrom s a n := by
    intro n
    induction n with
    | zero => exact fun _ => rfl
    | succ n ih =>
      intro a
      simp only [chunkFrom, hbyte, ih]
  exact hfrom _ _

/-- The schedule does not decide U3's action. -/
theorem u3Fetch_withEvents (rest : List Event) (s : State) : u3Fetch (withEvents rest s) = u3Fetch s := by
  have hact : ∀ a, u3ActionAt (withEvents rest s) a = u3ActionAt s a := by
    intro a
    cases a with
    | blkData | blkCrc => simp only [u3ActionAt, chunk_withEvents, withEvents_u3, withEvents_par]
    | _ => rfl
  simp only [u3Fetch, hact, withEvents_u3]

/-! ## Time, TX and `crc_s` -/

/-- SES.START writes neither the time nor the TX history nor `crc_s` (42_session.md R160). -/
theorem execSesStart_keeps {s t : State} (h : execSesStart s = .next t) :
    t.u3.t = s.u3.t ∧ t.u3.tx = s.u3.tx ∧ t.u3.crcS = s.u3.crcS := by
  unfold execSesStart at h
  cases h
  split
  · split <;> simp
  · simp

/-- No control word writes the time, the TX history or `crc_s`. -/
theorem WordMove.keeps {w : Word16} {s t : State} (h : WordMove w s t) :
    t.u3.t = s.u3.t ∧ t.u3.tx = s.u3.tx ∧ t.u3.crcS = s.u3.crcS := by
  cases h with
  | sesStart _ hstart => exact execSesStart_keeps hstart
  | _ => exact ⟨rfl, rfl, rfl⟩

/-- A move of U3 changes the time only by a Sleep, and never backwards (20_memory.md R62). -/
theorem SesMove.time {s t : State} (h : SesMove s t) :
    t.u3.t = s.u3.t ∨ (s.u3.t ≤ t.u3.t ∧ u3Fetch s = .ok .sleep) := by
  cases h with
  | settled _ hsleep => exact .inr ⟨by simpa using le_sleepFor_t _ s, hsleep⟩
  | gap _ _ hsleep => exact .inr ⟨by simpa using le_sleepFor_t _ s, hsleep⟩
  | polled _ _ hsleep => exact .inr ⟨by simpa using le_sleepFor_t _ s, hsleep⟩
  | failed _ hfrom => exact .inl hfrom.t
  | _ => exact .inl (by simp)

/-- A move of U3 appends to TX only the message it has enabled, or its first bytes (20_memory.md R60). -/
theorem SesMove.tx {s t : State} (h : SesMove s t) :
    t.u3.tx = s.u3.tx ∨ ∃ i n, u3Fetch s = .ok (.send i) ∧ t.u3.tx = s.u3.tx ++ (encode i).take n := by
  cases h with
  | failed _ hfrom => exact hfrom.tx
  | @sentOn _ _ i _ _ hsend => exact .inr ⟨i, (encode i).length, hsend, by simp⟩
  | @sentAndWaits _ _ i _ _ hsend => exact .inr ⟨i, (encode i).length, hsend, by simp⟩
  | @sentCrc i _ _ hsend _ => exact .inr ⟨i, (encode i).length, hsend, by simp⟩
  | _ => exact .inl (by simp)

/-- A move of U3 writes `crc_s` only at BLK_CRC, with the CRC of the current chunk (43_block_transfer.md R205). -/
theorem SesMove.crcS {s t : State} (h : SesMove s t) :
    t.u3.crcS = s.u3.crcS ∨
      ∃ bytes, atStep .blkCrc s ∧ chunk s s.u3.blk.toNat = .ok bytes ∧ t.u3.crcS = crcOf s.par bytes := by
  cases h with
  | failed _ hfrom => exact hfrom.crcS
  | sentCrc hat _ hchunk => exact .inr ⟨_, hat, hchunk, by simp⟩
  | _ => exact .inl (by simp)

/-- Settles O43: of all moves only U3's Sleeps move the time, and only its Sends append to TX. -/
theorem timeAndTxWriters : Obligations.TimeAndTxWriters := by
  intro s t hno h
  obtain ⟨k, rest, -, rfl⟩ | ⟨w, rest, -, hword⟩ | ⟨rest, hnext, hses⟩ := step_cases_of_noReset hno h
  · exact ⟨.inl rfl, .inl rfl⟩
  · obtain ⟨ht, htx, -⟩ := hword.keeps
    exact ⟨.inl ht, .inl htx⟩
  · have ht := hses.time
    have htx := hses.tx
    simp only [u3Fetch_withEvents, withEvents_u3] at ht htx
    exact ⟨ht.imp_right fun ⟨hle, hf⟩ => ⟨hle, rest, hnext, hf⟩,
      htx.imp_right fun ⟨i, n, hf, heq⟩ => ⟨rest, i, n, hnext, hf, heq⟩⟩

/-! ## `crc_h` -/

/-- A control word writes `crc_h` only as CRC.INIT or CRC.UPDATE (40_crc.md R100, R101). -/
theorem WordMove.crcH {w : Word16} {s t : State} (h : WordMove w s t) :
    t.crcH = s.crcH ∨ w = 0x0100 ∨ cwOp w = 0x02 := by
  cases h with
  | crcInit hw => exact .inr (.inl hw)
  | crcUpdate hop => exact .inr (.inr hop)
  | sesStart _ hstart => exact .inl (execSesStart_frame hstart).2.2.1
  | _ => exact .inl rfl

/-- Settles O44: of all moves only CRC.INIT and CRC.UPDATE write `crc_h`, and only U3's turn at BLK_CRC `crc_s`. -/
theorem crcWriters : Obligations.CrcWriters := by
  intro s t hno h
  obtain ⟨k, rest, -, rfl⟩ | ⟨w, rest, hev, hword⟩ | ⟨rest, hnext, hses⟩ := step_cases_of_noReset hno h
  · exact ⟨fun hne => absurd rfl hne, fun hne => absurd rfl hne⟩
  · exact ⟨fun hne => ⟨w, rest, hev, hword.crcH.resolve_left hne⟩, fun hne => absurd hword.keeps.2.2 hne⟩
  · refine ⟨fun hne => absurd hses.frame.2.2.1 hne, fun hne => ?_⟩
    obtain ⟨bytes, hat, hchunk, heq⟩ := hses.crcS.resolve_left hne
    rw [chunk_withEvents] at hchunk
    exact ⟨rest, bytes, hnext, hat, hchunk, heq⟩

/-! ## Separation -/

/-- A control word writes U2 only as HEX.CHAR or HEX.END (41_hex_parser.md R120 to R124). -/
theorem WordMove.u2 {w : Word16} {s t : State} (h : WordMove w s t) :
    t.u2 = s.u2 ∨ cwOp w = 0x10 ∨ cwOp w = 0x11 := by
  cases h with
  | hexChar hop => exact .inr (.inl hop)
  | hexEnd hop => exact .inr (.inr hop)
  | sesStart _ hstart => exact .inl (execSesStart_frame hstart).2.1
  | _ => exact .inl rfl

/-- A control word writes U3 only as SES.START (42_session.md R160). -/
theorem WordMove.u3 {w : Word16} {s t : State} (h : WordMove w s t) : t.u3 = s.u3 ∨ cwOp w = 0x20 := by
  cases h with
  | sesStart hop _ => exact .inr hop
  | _ => exact .inl rfl

/-- No step writes a parameter (70_reset_and_hazards.md R274). -/
theorem step_par {s t : State} (h : step s = .next t) : t.par = s.par := by
  obtain ⟨rest, -, rfl⟩ | ⟨k, rest, -, rfl⟩ | ⟨w, rest, -, hword⟩ | ⟨rest, -, hses⟩ := step_cases h
  · rfl
  · rfl
  · exact hword.par_eq
  · exact hses.frame.1

/-- Settles O45: each move writes its own unit. -/
theorem unitsSeparate : Obligations.UnitsSeparate := by
  intro s t h
  refine ⟨step_par h, fun rest hnext => ?_, fun w rest hev => ?_, fun k rest hev => ?_⟩
  · rw [step_of_u3Next hnext] at h
    exact (u3Turn_move h).frame.2
  · rw [step_of_word hev] at h
    have hword := wordStep_move h
    refine ⟨fun h1 h2 => ?_, fun h1 h2 => ?_, fun h1 => ?_⟩
    · obtain heq | rfl | hop := hword.crcH
      · exact heq
      · exact absurd (by decide) h1
      · exact absurd hop h2
    · obtain heq | hop | hop := hword.u2
      · exact heq
      · exact absurd hop h1
      · exact absurd hop h2
    · exact hword.u3.resolve_right h1
  · rw [step_of_expect hev] at h
    cases h
    exact ⟨rfl, rfl, rfl, rfl⟩

end Sys2Proof.Machine

/-! PROOF. In a session's states every step answers a next state, and U3 has a step exactly while it is active
(42_session.md R161; 60_exceptions.md R267, R268). -/

namespace Sys2Proof.Machine

/-! ## The meanings answer -/

/-- An instruction stops only at the three stops that have a name: a block count without a block size, an erase decision
without a kind, a chunk that cannot be read. -/
theorem exec_next {s : State} (i : Instr) (haddr : atStep .addrWait s → s.u3.blockSize ≠ 0)
    (hbsize : atStep .bsizeWait s → s.u3.kind ≠ none) (hchunk : ∃ bytes, chunk s s.u3.blk.toNat = .ok bytes) :
    ∃ t, exec i s = .next t := by
  cases i with
  | txBlock part =>
    cases part with
    | header bs => exact ⟨_, rfl⟩
    | data bytes => exact ⟨_, rfl⟩
    | crc c =>
      simp only [exec, execTxBlock]
      split
      · obtain ⟨bytes, hok⟩ := hchunk
        obtain ⟨f, herr, -⟩ | ⟨_, -, he⟩ := sendBlockCrc_cases c s
        · rw [hok] at herr; cases herr
        · exact ⟨_, he⟩
      · exact ⟨_, rfl⟩
  | rxOk =>
    simp only [exec, execRxOk]
    split; · exact ⟨_, rfl⟩
    split; · exact ⟨_, rfl⟩
    split; · exact ⟨_, rfl⟩
    split
    · rename_i hat
      obtain ⟨hzero, -⟩ | ⟨n, -, -, ⟨-, he⟩ | ⟨-, he⟩⟩ := acceptAddress_cases s
      · exact absurd hzero (haddr hat.1)
      · exact ⟨_, he⟩
      · exact ⟨_, he⟩
    split <;> exact ⟨_, rfl⟩
  | rxBsizeReply hi lo =>
    simp only [exec, execRxBsizeReply]
    split
    · rename_i hat
      obtain ⟨-, he⟩ | ⟨-, hnone, -⟩ | ⟨k, -, -, he⟩ := acceptBlockSize_cases (hi ++ lo) s
      · exact ⟨_, he⟩
      · exact absurd hnone (hbsize hat.1)
      · exact ⟨_, he⟩
    · exact ⟨_, rfl⟩
  | _ => exact ⟨_, rfl⟩

/-- A control word always answers a next state (30_encoding.md R74). -/
theorem wordStep_next (w : Word16) (s : State) : ∃ t, wordStep w s = .next t := by
  unfold wordStep
  cases hdec : decodeCw w with
  | error e => exact ⟨_, rfl⟩
  | ok i =>
    obtain ⟨-, rfl⟩ | ⟨-, rfl⟩ | ⟨-, rfl⟩ | ⟨-, rfl⟩ | ⟨-, rfl⟩ | ⟨-, rfl⟩ := decodeCw_cases hdec <;> exact ⟨_, rfl⟩

/-! ## U3's turn answers -/

/-- `s'` has everything that decides in `s` whether an instruction stops. -/
structure SameOperands (s s' : State) : Prop where
  par : s'.par = s.par
  u2 : s'.u2 = s.u2
  stage : s'.u3.sesState = s.u3.sesState
  blockSize : s'.u3.blockSize = s.u3.blockSize
  kind : s'.u3.kind = s.u3.kind

/-- An instruction does not stop on the operands of a session's state. -/
theorem exec_next_of_inv {s s' : State} (hs : sessionInv s) (himage : imageInv s) (hsame : SameOperands s s')
    (i : Instr) : ∃ t, exec i s' = .next t := by
  have himage' : imageInv s' := by simpa only [imageInv, hsame.par, hsame.u2] using himage
  refine exec_next i (fun hat => ?_) (fun hat => ?_) ⟨_, chunk_ok s' himage' _⟩
  · rw [hsame.blockSize]
    exact hs.blockSize (.inr (.inl (hsame.stage.symm.trans hat.1)))
  · rw [hsame.kind]
    exact (hs.identity (.inl (hsame.stage.symm.trans hat.1))).2.1

/-- A reply is run on the operands of the state before the read. -/
theorem u3Read_reply_same {s s' : State} {i : Instr} (h : u3Read s = .reply i s') : SameOperands s s' := by
  have hscan : ∀ b, scanRead b s = .reply i s' → SameOperands s s' := by
    intro b hb
    obtain ⟨-, he⟩ | ⟨r, -, ⟨-, he⟩ | ⟨-, -, he⟩ | ⟨-, -, he⟩⟩ := scanRead_cases b s
    all_goals rw [he] at hb; cases hb
    constructor <;> simp
  unfold u3Read at h
  split at h
  · exact hscan _ h
  split at h
  · exact hscan _ h
  split at h
  · rename_i w _
    obtain ⟨-, he⟩ | ⟨r, -, ⟨-, he⟩ | ⟨-, ⟨_, -, he⟩ | ⟨_, -, he⟩⟩ | ⟨-, -, he⟩ | ⟨-, -, he⟩⟩ := waitRead_cases w s
    all_goals rw [he] at h; cases h
    constructor <;> simp
  · cases h

/-- The action at a wait is never none. -/
theorem waitAction_ne_idle (s : State) : waitAction s ≠ .idle := by
  unfold waitAction; split <;> simp

/-- Over a readable image every step has its action, and only NONE and END have none to take. -/
theorem u3ActionAt_ok {s : State} (himage : imageInv s) (a : SesStep) :
    ∃ act, u3ActionAt s a = .ok act ∧ (act = .idle ↔ a = .stepNone ∨ a = .stepEnd) := by
  cases a with
  | stepNone | stepEnd => exact ⟨.idle, rfl, by simp⟩
  | sigWait | setdevWait | verWait | bsizeWait | xsizeWait | eraseWait | addrWait | blkWait =>
    exact ⟨_, rfl, by simp [waitAction_ne_idle]⟩
  | blkData | blkCrc =>
    simp only [u3ActionAt, chunk_ok s himage]
    exact ⟨_, rfl, by simp⟩
  | _ => exact ⟨_, rfl, by simp⟩

/-- Over a readable image U3 has an action in every state. -/
theorem u3Fetch_ok {s : State} (himage : imageInv s) : ∃ act, u3Fetch s = .ok act := by
  unfold u3Fetch
  split
  · obtain ⟨act, hact, -⟩ := u3ActionAt_ok himage s.u3.sesStep
    exact ⟨act, hact⟩
  · exact ⟨_, rfl⟩

/-- In a session's states U3's turn answers a next state. -/
theorem u3Turn_next {s : State} (hs : sessionInv s) (himage : imageInv s) : ∃ t, u3Turn s = .next t := by
  obtain ⟨act, hf⟩ := u3Fetch_ok himage
  unfold u3Turn
  rw [hf]
  cases act with
  | idle | sleep => exact ⟨_, rfl⟩
  | send i => exact exec_next_of_inv hs himage ⟨rfl, rfl, rfl, rfl, rfl⟩ i
  | read =>
    cases hr : u3Read s with
    | settled t => exact ⟨t, rfl⟩
    | reply i s' =>
      obtain ⟨t, ht⟩ := exec_next_of_inv hs himage (u3Read_reply_same hr) i
      exact ⟨t, ht⟩

/-! ## Every step answers -/

/-- In a session's states every step answers a next state. -/
theorem step_next {s : State} (hs : sessionInv s) (himage : imageInv s) : ∃ t, step s = .next t := by
  have hturn : ∀ rest, u3Next s rest → ∃ t, step s = .next t := by
    intro rest hnext
    rw [step_of_u3Next hnext]
    exact u3Turn_next (sessionInv_of_eq (s := s) rfl rfl (fun _ => rfl) hs) himage
  cases hev : s.env.events with
  | nil => exact hturn [] (.inr ⟨hev, rfl⟩)
  | cons e rest =>
    cases e with
    | word w => rw [step_of_word hev]; exact wordStep_next w _
    | rst => exact ⟨_, step_of_rst hev⟩
    | expect k => exact ⟨_, step_of_expect hev⟩
    | u3 => exact hturn rest (.inl hev)

/-- A step that takes no reserved word keeps a run meaningful (10_state.md R41). -/
theorem meaningful_step {s t : State} (hno : ¬ reservedNext s) (h : step s = .next t) (hs : meaningful s) :
    meaningful t := by
  obtain ⟨rest, -, rfl⟩ | ⟨k, rest, -, rfl⟩ | ⟨w, rest, hev, hword⟩ | ⟨rest, -, hses⟩ := step_cases h
  · rfl
  · exact hs
  · cases hword with
    | refused hdec => exact absurd ⟨w, rest, _, hev, hdec⟩ hno
    | sesStart _ hstart => exact (execSesStart_frame hstart).2.2.2.trans hs
    | _ => exact hs
  · exact hses.frame.2.2.2.trans hs

/-- A reserved word answers a next state and sets the refused mark (30_encoding.md R74). -/
theorem reservedNext_step {s : State} (h : reservedNext s) : ∃ t, step s = .next t ∧ ¬ meaningful t := by
  obtain ⟨w, rest, e, hev, hdec⟩ := h
  refine ⟨refuseWord (withEvents rest s), ?_, by simp [meaningful]⟩
  rw [step_of_word hev]
  simp only [wordStep, hdec]

/-! ## Active is enabled -/

/-- NONE is the only step in IDLE. -/
theorem stepStage_eq_idle_iff (a : SesStep) : stepStage a = .idle ↔ a = .stepNone := by
  cases a <;> decide

/-- U3 has an enabled step exactly while it is active (R161; 60_exceptions.md R267). -/
theorem enabled_iff_sesActive {s : State} (hs : sessionInv s) (himage : imageInv s) :
    (∃ act, u3Fetch s = .ok act ∧ act ≠ .idle) ↔ sesActive s = true := by
  obtain hstage | ⟨hfailed, hend⟩ := hs.stage
  · obtain ⟨act, hact, hidle⟩ := u3ActionAt_ok himage s.u3.sesStep
    have hf : u3Fetch s = .ok act := (if_pos hstage).trans hact
    have hactive : sesActive s = true ↔ s.u3.sesStep ≠ .stepNone ∧ s.u3.sesStep ≠ .stepEnd := by
      simp [sesActive, hstage, stepStage_ne_failed, stepStage_eq_idle_iff]
    rw [hactive, hf]
    simp only [Except.ok.injEq, exists_eq_left', ne_eq, hidle, not_or]
  · have hf : u3Fetch s = .ok .idle := if_neg (by rw [hfailed]; exact (stepStage_ne_failed _).symm)
    simp [hf, sesActive, hfailed]

/-- Settles O55: the invariants exclude the named stops, so every step answers. -/
theorem sessionNeverStops : Obligations.SessionNeverStops := by
  intro s hs himage
  refine ⟨fun hno => ?_, reservedNext_step, enabled_iff_sesActive hs himage⟩
  obtain ⟨t, ht⟩ := step_next hs himage
  exact ⟨t, ht, meaningful_step hno ht⟩

end Sys2Proof.Machine

/-! PROOF. RST and the state after reset (10_state.md R45; 70_reset_and_hazards.md R270, R271), and the status ports
(R43, R44). -/

namespace Sys2Proof.Machine

/-! ## Reset -/

/-- A state whose units are reset has every element of the reset table at its value (R45). -/
theorem atReset_of_units {s : State} (hcrc : s.crcH = 0xFFFF) (hu2 : s.u2 = hexReset) (hu3 : s.u3 = sesReset)
    (hrefused : s.refused = false) : atReset s := by
  simp [atReset, hcrc, hu2, hu3, hrefused, hexReset, sesReset]

/-- Settles O42: RST writes the reset units and keeps parameters and environment. -/
theorem resetExact : Obligations.ResetExact := by
  refine ⟨fun s rest hev => ?_, atReset_of_units rfl rfl rfl rfl, rfl⟩
  exact ⟨_, step_of_rst hev, atReset_of_units rfl rfl rfl rfl, rfl, rfl⟩

/-- The state after reset is one that RST leaves (R271). -/
theorem applyReset_reset : applyReset State.reset = State.reset := rfl

/-- The TX history after reset is empty, as at NONE (43_block_transfer.md R211). -/
theorem txInv_reset : txInv State.reset := fun _ => ⟨0, rfl, rfl⟩

/-- Settles O58: what RST establishes holds of the state after reset, which RST leaves as it is. -/
theorem invariantsAtReset : Obligations.InvariantsAtReset := by
  unfold Obligations.InvariantsAtReset
  rw [← applyReset_reset]
  exact ⟨imageInv_applyReset _, reset_memory_wf, by simp [hexReset], boundsInv_applyReset _, lineInv_applyReset _,
    hexErrorInv_applyReset _, sessionInv_applyReset _, sesErrorInv_applyReset _, matchInv_applyReset _,
    waitInv_applyReset _, timeInv_applyReset _, txInv_reset⟩

/-! ## Ports -/

/-- P20 OUTCOME in every state (R43; 60_exceptions.md R268). -/
theorem readPort_outcome (s : State) :
    readPort s .outcome =
      .bits 2
        (if s.u3.sesState = .failed ∨ s.u2.hxState = .error then 2
        else if s.u3.sesState = .complete ∧ s.u3.sesStep = .stepEnd ∧ s.u2.hxState = .done then 1
        else 0) := by
  simp only [readPort, outcome, sesFailed, hexFailed, sesDone, imageReady, Bool.or_eq_true, Bool.and_eq_true,
    decide_eq_true_eq, and_assoc]

/-- A session that has come to END in COMPLETE has succeeded: its image is DONE, so no unit has failed. -/
theorem readPort_outcome_of_complete {s : State} (hs : sessionInv s) (hstage : s.u3.sesState = .complete)
    (hstep : s.u3.sesStep = .stepEnd) : readPort s .outcome = .bits 2 1 := by
  have hdone : s.u2.hxState = .done := hs.imageReady (started_of_inBlock_or_complete (.inr hstage))
  rw [readPort_outcome]
  simp [hstage, hstep, hdone]

/-- The derived flags are the functions of the state that R44 names. -/
theorem flags_iff (s : State) :
    (imageReady s = true ↔ s.u2.hxState = .done) ∧ (hexFailed s = true ↔ s.u2.hxState = .error) ∧
      (sesActive s = true ↔ s.u3.sesState ≠ .idle ∧ s.u3.sesState ≠ .failed ∧ s.u3.sesStep ≠ .stepEnd) ∧
      (sesDone s = true ↔ s.u3.sesState = .complete ∧ s.u3.sesStep = .stepEnd) ∧
      (sesFailed s = true ↔ s.u3.sesState = .failed) :=
  ⟨decide_eq_true_iff, decide_eq_true_iff, decide_eq_true_iff, decide_eq_true_iff, decide_eq_true_iff⟩

/-- Settles O60: the codes and ports by the tables, OUTCOME by its two cases. -/
theorem statusPorts : Obligations.StatusPorts := by
  refine ⟨⟨rfl, rfl, rfl, rfl, rfl, rfl, rfl⟩, fun s => ⟨?_, flags_iff s, readPort_outcome s, ?_⟩⟩
  · exact ⟨rfl, rfl, rfl, rfl, rfl, rfl, rfl, rfl, rfl, rfl, rfl, rfl, rfl, rfl, rfl, rfl, rfl, rfl, rfl, rfl, rfl,
      rfl, rfl⟩
  · exact readPort_outcome_of_complete

end Sys2Proof.Machine

/-! PROOF. U3's turn by the action it has enabled (42_session.md R161): which instruction a step runs, what its Sleeps
do (R62, R164 to R166), and what a scan point can come to (R166 to R168). -/

namespace Sys2Proof.Machine

/-! ## A control word -/

/-- Settles O8: the schedule gives the word, and the word decodes to the instruction. -/
theorem stepRunsControlWord : Obligations.StepRunsControlWord := by
  intro s w rest i hev hdec
  rw [step_of_word hev]
  simp only [wordStep, hdec]
  rfl

/-! ## The turn by its action -/

/-- U3's action at a step in its stage is that step's. -/
theorem u3Fetch_of_atStep {a : SesStep} {s : State} (hat : atStep a s) : u3Fetch s = u3ActionAt s a := by
  obtain ⟨hstage, rfl⟩ := hat
  exact if_pos hstage

/-- U3's action at a wait is that of its phase. -/
theorem u3Fetch_of_wait {s : State} {w : WaitSpec} (hstage : s.u3.sesState = stepStage s.u3.sesStep)
    (hw : waitOf s.par s.u3.sesStep = some w) : u3Fetch s = .ok (waitAction s) :=
  (if_pos hstage).trans (u3ActionAt_wait hw)

/-- A wait in its SLEEP phase sleeps. -/
theorem waitAction_of_sleep {s : State} (h : s.u3.wPhase = .sleep) : waitAction s = .sleep := by
  simp only [waitAction, h]

/-- A wait in its READ phase reads. -/
theorem waitAction_of_read {s : State} (h : s.u3.wPhase = .read) : waitAction s = .read := by
  simp only [waitAction, h]

/-- U3's turn at a step that sleeps. -/
theorem step_of_sleep {s : State} {rest : List Event} (hnext : u3Next s rest) (hf : u3Fetch s = .ok .sleep) :
    step s = .next (u3Sleep (withEvents rest s)) := by
  simp only [step_of_u3Next hnext, u3Turn, u3Fetch_withEvents, hf]

/-- U3's turn at a step that reads, where the read settles the next state. -/
theorem step_of_settled {s t : State} {rest : List Event} (hnext : u3Next s rest) (hf : u3Fetch s = .ok .read)
    (hr : u3Read (withEvents rest s) = .settled t) : step s = .next t := by
  simp only [step_of_u3Next hnext, u3Turn, u3Fetch_withEvents, hf, hr]

/-- U3's turn at a step that reads, where the read completes a reply. -/
theorem step_of_reply {s s' : State} {i : Instr} {rest : List Event} (hnext : u3Next s rest)
    (hf : u3Fetch s = .ok .read) (hr : u3Read (withEvents rest s) = .reply i s') : step s = exec i s' := by
  simp only [step_of_u3Next hnext, u3Turn, u3Fetch_withEvents, hf, hr]

/-! ## Draws -/

/-- The schedule does not decide what a read draws. -/
theorem drawRead_withEvents (rest : List Event) (s : State) : (drawRead (withEvents rest s)).1 = (drawRead s).1 := by
  simp only [drawRead, withEvents_env_reads, withEvents_env_drawn]
  split <;> rfl

/-- The schedule does not decide the jitter of a Sleep. -/
theorem drawJitter_withEvents (rest : List Event) (s : State) :
    (drawJitter (withEvents rest s)).1 = (drawJitter s).1 := by
  simp only [drawJitter, withEvents_env_jitters, withEvents_env_drawn]
  split <;> rfl

/-! ## Reads of a wait -/

/-- The read step of a wait is its READ phase (R164). -/
theorem u3Read_of_wait {s : State} {w : WaitSpec} (hw : waitOf s.par s.u3.sesStep = some w) :
    u3Read s = waitRead w s := by
  have h1 : s.u3.sesStep ≠ .dScan1 := fun h => by rw [h] at hw; cases hw
  have h2 : s.u3.sesStep ≠ .dScan2 := fun h => by rw [h] at hw; cases hw
  simp only [u3Read, if_neg h1, if_neg h2, hw]

/-- A wait whose buffer is just full of a reply it accepts hands on the reply's instruction (R164). -/
theorem waitRead_of_full {s : State} {w : WaitSpec} {r : List Byte} {i : Instr} (hd : (drawRead s).1 = .bytes r)
    (hlen : (s.u3.rxbuf ++ r).length = w.len) (hdec : decodeRx s.par.vRespLen w.kind (s.u3.rxbuf ++ r) = .ok i) :
    waitRead w s = .reply i (withRx r s) := by
  simp only [waitRead, hd, hlen, hdec, lt_irrefl, le_refl, if_true, if_false]

/-! ## Scan points -/

/-- U3 reads at a scan point (R166). -/
theorem u3Fetch_of_scan {s : State} {a b : SesStep} (hab : ScanThenPing a b) (hat : atStep a s) :
    u3Fetch s = .ok .read := by
  rw [u3Fetch_of_atStep hat]
  cases hab <;> rfl

/-- The read step at a scan point is the scan. -/
theorem u3Read_of_scan {s : State} {a b : SesStep} (hab : ScanThenPing a b) (hat : atStep a s) :
    u3Read s = scanRead b s := by
  cases hab with
  | first => exact if_pos hat.2
  | second => simp [u3Read, hat.2]

/-- A scan whose read fails. -/
theorem scanRead_of_ioError {s : State} {again : SesStep} (hd : (drawRead s).1 = .ioError) :
    scanRead again s = .settled (sesFail .ioFailure .discovery 4 (toU32 s.u3.matchIdx) 0 0 (drawRead s).2) := by
  simp only [scanRead, hd]

/-- A scan whose bytes complete the match; the deadline is not asked (R166). -/
theorem scanRead_of_found {s : State} {again : SesStep} {r : List Byte} (hd : (drawRead s).1 = .bytes r)
    (hfound : (scanBytes s.par.matchRetest s.u3.matchIdx r).2 = true) :
    scanRead again s = .reply .rxIdent (withScan r s) := by
  simp only [scanRead, hd, hfound, if_true]

/-- A scan without a match at or past the deadline (R168). -/
theorem scanRead_of_timeout {s : State} {again : SesStep} {r : List Byte} (hd : (drawRead s).1 = .bytes r)
    (hfound : (scanBytes s.par.matchRetest s.u3.matchIdx r).2 = false)
    (hlate : s.u3.t0 + s.par.tDiscovery ≤ s.u3.t) :
    scanRead again s =
      .settled
        (sesFail .discoveryTimeout .discovery 4 (toU32 (scanBytes s.par.matchRetest s.u3.matchIdx r).1) 0 0
          (withScan r s)) := by
  simp only [scanRead, hd, hfound, Bool.false_eq_true, if_false, if_pos hlate]

/-- A scan without a match before the deadline (R166). -/
theorem scanRead_of_early {s : State} {again : SesStep} {r : List Byte} (hd : (drawRead s).1 = .bytes r)
    (hfound : (scanBytes s.par.matchRetest s.u3.matchIdx r).2 = false)
    (hearly : s.u3.t < s.u3.t0 + s.par.tDiscovery) :
    scanRead again s = .settled (goStep again (withScan r s)) := by
  simp only [scanRead, hd, hfound, Bool.false_eq_true, if_false, if_neg (Nat.not_le.2 hearly)]

/-- A scan moves the matcher and changes nothing else but the record of draws. -/
theorem withScan_eq (r : List Byte) (s : State) :
    withScan r s =
      { (drawRead s).2 with
        u3 := { s.u3 with matchIdx := (scanBytes s.par.matchRetest s.u3.matchIdx r).1 } } := by
  simp only [withScan, drawRead_u3]

/-- RX.IDENT enters SIGNATURE_EXCHANGE from a scan point (R166, R167). -/
theorem execRxIdent_of_scan {s : State} {a b : SesStep} (hab : ScanThenPing a b) (hat : atStep a s) :
    exec .rxIdent s =
      .next
        { s with u3 := { s.u3 with matchIdx := 4, sesState := .signatureExchange, sesStep := .sigSend } } := by
  have hscan : atStep .dScan1 s ∨ atStep .dScan2 s := by
    cases hab with
    | first => exact .inl hat
    | second => exact .inr hat
  simp only [exec, execRxIdent, if_pos hscan]
  rfl

/-- Settles O11: the turn reads, and a full buffer or a completed match hands on the instruction. -/
theorem stepRunsReply : Obligations.StepRunsReply := by
  intro s rest r hnext hdraw
  have hd : (drawRead (withEvents rest s)).1 = .bytes r := (drawRead_withEvents rest s).trans hdraw
  refine ⟨fun w i hstage hphase hw hlen hdec => ?_, fun hat hfound => ?_⟩
  · have hf : u3Fetch s = .ok .read := by rw [u3Fetch_of_wait hstage hw, waitAction_of_read hphase]
    have hr : u3Read (withEvents rest s) = waitRead w (withEvents rest s) := u3Read_of_wait hw
    exact step_of_reply hnext hf (hr.trans (waitRead_of_full hd hlen hdec))
  · have hscan : ∃ a b, ScanThenPing a b ∧ atStep a s :=
      hat.elim (fun h => ⟨_, _, .first, h⟩) (fun h => ⟨_, _, .second, h⟩)
    obtain ⟨a, b, hab, hat⟩ := hscan
    have hr : u3Read (withEvents rest s) = scanRead b (withEvents rest s) := u3Read_of_scan hab hat
    exact step_of_reply hnext (u3Fetch_of_scan hab hat) (hr.trans (scanRead_of_found hd hfound))

/-- Settles O39: the four outcomes of a scan, in the order in which it asks for them. -/
theorem scanOutcomes : Obligations.ScanOutcomes := by
  intro s rest scan again hnext hpair hat
  have hab : ScanThenPing scan again := by
    obtain ⟨rfl, rfl⟩ | ⟨rfl, rfl⟩ := hpair
    · exact .first
    · exact .second
  have hf : u3Fetch s = .ok .read := u3Fetch_of_scan hab hat
  have hr : u3Read (withEvents rest s) = scanRead again (withEvents rest s) := u3Read_of_scan hab hat
  have hd := drawRead_withEvents rest s
  refine ⟨fun hio => ?_, fun r hbytes => ⟨fun hfound => ?_, fun hfound hlate => ?_, fun hfound hearly => ?_⟩⟩
  · exact step_of_settled hnext hf (hr.trans (scanRead_of_ioError (hd.trans hio)))
  · have hat' : atStep scan (withScan r (withEvents rest s)) := by simpa [atStep] using hat
    rw [step_of_reply hnext hf (hr.trans (scanRead_of_found (hd.trans hbytes) hfound)), execRxIdent_of_scan hab hat',
      withScan_eq]
    rfl
  · rw [step_of_settled hnext hf (hr.trans (scanRead_of_timeout (hd.trans hbytes) hfound hlate)), withScan_eq]
    rfl
  · rw [step_of_settled hnext hf (hr.trans (scanRead_of_early (hd.trans hbytes) hfound hearly)), withScan_eq]
    rfl

/-! ## Sleeps -/

/-- U3's turn at a Sleep step, which goes on by `next`: the time grows by the duration and the drawn jitter
(20_memory.md R62). -/
theorem step_of_sleepFor {s : State} {rest : List Event} {d : Nat} {next : State → State} (hnext : u3Next s rest)
    (hf : u3Fetch s = .ok .sleep) (hsleep : u3Sleep (withEvents rest s) = next (sleepFor d (withEvents rest s))) :
    step s =
      .next
        (next
          { withEvents rest s with
            env := (drawJitter (withEvents rest s)).2.env
            u3 := { s.u3 with t := s.u3.t + d + (drawJitter s).1 } }) := by
  rw [step_of_sleep hnext hf, hsleep, sleepFor_eq, drawJitter_withEvents, withEvents_u3]

/-- The Sleep step of a wait is one poll interval (R164). -/
theorem u3Sleep_of_wait {s : State} {w : WaitSpec} (hw : waitOf s.par s.u3.sesStep = some w) :
    u3Sleep s = toRead (sleepFor s.par.tPoll s) := by
  have h1 : s.u3.sesStep ≠ .dSettle := fun h => by rw [h] at hw; cases hw
  have h2 : s.u3.sesStep ≠ .dGap1 := fun h => by rw [h] at hw; cases hw
  have h3 : s.u3.sesStep ≠ .dGap2 := fun h => by rw [h] at hw; cases hw
  simp only [u3Sleep, if_neg h1, if_neg h2, if_neg h3]

/-- Settles O38: each Sleep step is a Sleep, then a change of U3's step or phase. -/
theorem sleepSteps : Obligations.SleepSteps := by
  intro s rest hnext
  refine ⟨fun hat => ?_, fun hat => ?_, fun hat => ?_, fun w hw hstage hphase => ?_⟩
  · exact step_of_sleepFor (next := goStep .dPing1 ∘ startDiscovery) hnext (u3Fetch_of_atStep hat)
      (by simp [u3Sleep, hat.2])
  · exact step_of_sleepFor (next := goStep .dScan1) hnext (u3Fetch_of_atStep hat) (by simp [u3Sleep, hat.2])
  · exact step_of_sleepFor (next := goStep .dScan2) hnext (u3Fetch_of_atStep hat) (by simp [u3Sleep, hat.2])
  · have hf : u3Fetch s = .ok .sleep := by rw [u3Fetch_of_wait hstage hw, waitAction_of_sleep hphase]
    exact step_of_sleepFor (next := toRead) hnext hf (u3Sleep_of_wait hw)

end Sys2Proof.Machine

/-! PROOF. A Send that fails, for every message (20_memory.md R60; 60_exceptions.md R256, R260), and the stops that
have a name (log 7, log 8). -/

namespace Sys2Proof.Machine

/-! ## A failing Send -/

/-- A Send that draws IOError(p) with `p` below the message's length: the first `p` bytes are in `tx`, and U3 has
failed (20_memory.md R60; 60_exceptions.md R256). -/
theorem sendMsg_of_ioError {s : State} {op : SesOp} {blk : Word32} {m : List Byte} {onOk : State → State} {p : Nat}
    (hd : (drawSend s).1 = .ioError p) (hp : p < m.length) :
    sendMsg op blk m onOk s =
      { s with
        env := (drawSend s).2.env
        u3 :=
          { s.u3 with
            tx := s.u3.tx ++ m.take p, sesCode := .ioFailure, sesOp := op, sesExp := toU32 m.length,
            sesObs := toU32 p, sesVal := 0, sesBlk := blk, sesState := .failed, sesStep := .stepEnd,
            wPhase := .sleep } } := by
  have hsent : min p (m.length - 1) = p := Nat.min_eq_left (Nat.le_sub_one_of_lt hp)
  rw [sendMsg_ioError op blk m onOk s p hd, hsent, drawSend_eq]
  rfl

/-- A message at its step is one Send of its bytes; BLK_CRC, which also writes `crc_s`, stands apart. -/
theorem exec_message {s : State} {i : Instr} {a : SesStep} {op : SesOp} (hm : messageAt i = some (a, op))
    (hat : atStep a s) (hcrc : a ≠ .blkCrc) (hsize : a = .xsizeSend → totalBytes s ≤ 0xFFFFFF) :
    ∃ onOk, exec i s = .next (sendMsg op (messageBlk op s) (encode i) onOk s) := by
  cases i with
  | txResetFrame | txPing1 | txPing2 | txReadSig | txSetDev | txReadVer | txReadBsize | txErase | txSetAddr | txExit =>
    cases hm
    exact ⟨_, congrArg Host.Outcome.next (whenAt_pos _ _ _ hat)⟩
  | txEraseSize size =>
    cases hm
    have hsend := (whenAt_pos .xsizeSend (sendEraseSize size) s hat).trans (if_neg (Nat.not_lt.2 (hsize rfl)))
    exact ⟨_, congrArg Host.Outcome.next hsend⟩
  | txBlock part =>
    cases part with
    | header | data =>
      cases hm
      exact ⟨_, congrArg Host.Outcome.next (whenAt_pos _ _ _ hat)⟩
    | crc =>
      cases hm
      exact absurd rfl hcrc
  | _ => cases hm

/-- BLK_CRC sends the CRC part of a block only. -/
theorem messageAt_blkCrc {i : Instr} {op : SesOp} (hm : messageAt i = some (.blkCrc, op)) :
    ∃ c, i = .txBlock (.crc c) ∧ op = .block := by
  cases i with
  | txBlock part =>
    cases part with
    | header | data => cases hm
    | crc c => cases hm; exact ⟨c, rfl, rfl⟩
  | _ => cases hm

/-- The CRC part of a block at its step, over a chunk that can be read (43_block_transfer.md R205, R206). -/
theorem exec_blockCrc {s : State} {c : Word16} {bytes : List Byte} (hat : atStep .blkCrc s)
    (hchunk : chunk s s.u3.blk.toNat = .ok bytes) :
    exec (.txBlock (.crc c)) s =
      .next
        (sendMsg .block s.u3.blk (encode (.txBlock (.crc c))) (startWait .blkWait)
          { s with u3 := { s.u3 with crcS := crcOf s.par bytes } }) := by
  simp only [exec, execTxBlock, if_pos hat, sendBlockCrc, hchunk]

/-- `crc_s` does not decide what a Send draws. -/
theorem drawSend_crcS (c : Word16) (s : State) :
    drawSend { s with u3 := { s.u3 with crcS := c } } =
      ((drawSend s).1, { (drawSend s).2 with u3 := { s.u3 with crcS := c } }) := by
  simp only [drawSend]
  split <;> rfl

/-- Settles O31: every message is one Send, and a failing Send leaves its first bytes; BLK_CRC has written `crc_s`
before it. -/
theorem sendFailure : Obligations.SendFailure := by
  intro s i p a op hm hat hd hp hsize hreads
  by_cases hcrc : a = .blkCrc
  · subst hcrc
    obtain ⟨bytes, hchunk⟩ := hreads rfl
    obtain ⟨c, rfl, rfl⟩ := messageAt_blkCrc hm
    refine ⟨crcOf s.par bytes, fun h => absurd rfl h, fun _ bytes' h => ?_, ?_⟩
    · rw [hchunk] at h
      cases h
      rfl
    · rw [exec_blockCrc hat hchunk, sendMsg_of_ioError (by rw [drawSend_crcS]; exact hd) hp, drawSend_crcS]
      rfl
  · obtain ⟨onOk, hexec⟩ := exec_message hm hat hcrc hsize
    exact ⟨s.u3.crcS, fun _ => rfl, fun h => absurd h hcrc, by rw [hexec, sendMsg_of_ioError hd hp]⟩

/-! ## The named stops -/

/-- A size with a nonzero byte is not 0 (30_encoding.md R84). -/
theorem append_ne_zero {hi lo : Byte} (h : hi ≠ 0 ∨ lo ≠ 0) : (hi ++ lo : Word16) ≠ 0 := by
  intro hzero
  have hhi : (hi ++ lo : Word16).extractLsb' 8 8 = hi := BitVec.extractLsb'_append_eq_left
  have hlo : (hi ++ lo : Word16).extractLsb' 0 8 = lo := BitVec.extractLsb'_append_eq_right
  rw [hzero] at hhi hlo
  exact h.elim (absurd hhi.symm) (absurd hlo.symm)

/-- Settles O59: each stop is the branch of its meaning that its premises select. -/
theorem stopsAreNamed : Obligations.StopsAreNamed := by
  intro s
  refine ⟨fun hat hzero => ?_, fun hat hkind hi lo hsize => ?_, fun hat f c hchunk => ?_⟩
  · obtain ⟨⟨hstage, hstep⟩, hphase⟩ := hat
    have haddr : execRxOk s = acceptAddress s := by
      simp [execRxOk, atRead, atStep, hstage, hstep, hphase, stepStage]
    exact haddr.trans (if_pos hzero)
  · have hbs : (hi ++ lo : Word16) ≠ 0 := append_ne_zero hsize
    simp only [exec, execRxBsizeReply, if_pos hat, acceptBlockSize, if_neg hbs, hkind]
  · simp only [exec, execTxBlock, if_pos hat, sendBlockCrc, hchunk]

end Sys2Proof.Machine

/-! PROOF. The image memory (20_memory.md R50 to R55): what an accepted Data record writes, where a step writes, and
that a final image is not written. -/

namespace Sys2Proof.Machine

/-! ## A final image -/

/-- Settles O46: U3 and the moves of the environment never write U2, and a control word does not once it is DONE. -/
theorem doneImageFrozen : Obligations.DoneImageFrozen := by
  intro s t hdone hno h
  obtain ⟨k, rest, -, rfl⟩ | ⟨w, rest, -, hword⟩ | ⟨rest, -, hses⟩ := step_cases_of_noReset hno h
  · rfl
  · exact hword.u2_of_done hdone
  · exact hses.frame.2.1

/-! ## A Data record -/

/-- A record at a collected line is U2's instruction (41_hex_parser.md R134). -/
theorem exec_recData_of_collect {s : State} {address : Word16} {payload : List Byte} {cc : Byte}
    (h : s.u2.hxState = .collect) :
    exec (.recData address payload cc) s = .next { s with u2 := recordData s.par address payload cc s.u2 } :=
  congrArg Host.Outcome.next (if_pos h)

/-- A Data record whose checksum is not a strict error is applied by its builder (R133, R134). -/
theorem recordData_of_accepted {par : Params} {address : Word16} {payload : List Byte} {cc : Byte} {u : HexUnit}
    (h : recordSum 0x00 address payload cc = 0 ∨ par.strictChecksum = false) :
    recordData par address payload cc u =
      backToSeek (buildData par address payload (afterDecode (recordSum 0x00 address payload cc) u)) := by
  obtain ⟨hsum, hstrict, -⟩ | ⟨-, he⟩ :=
    acceptRecord_cases par 0x00 address payload cc (buildData par address payload) u
  · exact absurd hstrict (by rw [h.resolve_left hsum]; decide)
  · exact he

/-- Payload byte `i` is read at `a + i` (20_memory.md R53). -/
theorem memRead?_memWriteBytes_add (m : Memory) (a : Nat) {bytes : List Byte} {i : Nat} (hi : i < bytes.length) :
    memRead? (memWriteBytes m a bytes) (a + i) = bytes[i]? := by
  rw [memRead?_memWriteBytes, if_pos (by omega), Nat.add_sub_cancel_left]

/-- Outside the payload's addresses a read is as before (R53). -/
theorem memRead?_memWriteBytes_outside (m : Memory) {a x : Nat} {bytes : List Byte}
    (hx : x < a ∨ a + bytes.length ≤ x) : memRead? (memWriteBytes m a bytes) x = memRead? m x := by
  rw [memRead?_memWriteBytes, if_neg (by omega)]

/-- Settles O21: the builder's three cases, and the laws of a payload write. -/
theorem dataRecordBuildsImage : Obligations.DataRecordBuildsImage := by
  intro s address payload cc hcollect hsum abs next u
  have hrecord : exec (.recData address payload cc) s =
      .next { s with u2 := backToSeek (buildData s.par address payload u) } := by
    rw [exec_recData_of_collect hcollect, recordData_of_accepted hsum]
    rfl
  rw [hrecord]
  obtain ⟨hne, he⟩ | ⟨habs, hover, he⟩ | ⟨habs, hcap, he⟩ := buildData_cases s.par address payload u
  · rw [he, backToSeek_of_ne (by simp)]
    exact ⟨fun _ => rfl, fun h => absurd h hne, fun h => absurd h hne⟩
  · rw [he, backToSeek_of_ne (by simp)]
    exact ⟨fun h => absurd habs h, fun _ _ => rfl, fun _ h => absurd hover (Nat.not_lt.2 h)⟩
  · have hback : backToSeek (buildData s.par address payload u) =
        { u with
          image := memWriteBytes s.u2.image s.u2.cursor.toNat payload, cursor := toU32 next, hxState := .seek } := by
      rw [he]
      exact backToSeek_of_collect hcollect
    rw [hback]
    refine ⟨fun h => absurd habs h, fun _ h => absurd hcap (Nat.not_le.2 h), fun _ _ => ?_⟩
    have hfit : next < 2 ^ 32 := lt_of_le_of_lt hcap s.par.imageCapacity.isLt
    refine ⟨memWriteBytes s.u2.image s.u2.cursor.toNat payload, ?_, fun i hi => ?_, fun a ha => ?_⟩
    · rw [← toU32_of_lt next hfit]
    · exact memRead?_memWriteBytes_add _ _ hi
    · exact memRead?_memWriteBytes_outside _ ha

/-! ## The order of the writes -/

/-- From `u` to `v` the image is written at the cursor and upwards, without gap or overwrite, by at most one record's
payload (20_memory.md R52). -/
structure WritesUpward (u v : HexUnit) : Prop where
  cursor_le : u.cursor.toNat ≤ v.cursor.toNat
  cursor_bound : v.cursor.toNat ≤ u.cursor.toNat + 255
  outside : ∀ a, (a < u.cursor.toNat ∨ v.cursor.toNat ≤ a) → memRead? v.image a = memRead? u.image a
  inside : ∀ a, u.cursor.toNat ≤ a → a < v.cursor.toNat → (memRead? v.image a).isSome = true
  wf : Memory.wf u.image → Memory.wf v.image

/-- Nothing is written where image and cursor stay. -/
theorem WritesUpward.of_eq {u v : HexUnit} (himage : v.image = u.image) (hcursor : v.cursor = u.cursor) :
    WritesUpward u v where
  cursor_le := by rw [hcursor]
  cursor_bound := by rw [hcursor]; omega
  outside := fun a _ => by rw [himage]
  inside := fun a h1 h2 => by rw [hcursor] at h2; omega
  wf := fun h => by rwa [himage]

/-- What follows a write and touches neither image nor cursor does not matter. -/
theorem WritesUpward.congr {u v w : HexUnit} (h : WritesUpward u v) (himage : w.image = v.image)
    (hcursor : w.cursor = v.cursor) : WritesUpward u w := by
  obtain ⟨hle, hbound, houtside, hinside, hwf⟩ := h
  rw [← himage] at houtside hinside hwf
  rw [← hcursor] at hle hbound houtside hinside
  exact ⟨hle, hbound, houtside, hinside, hwf⟩

/-- An elementary move of U2 writes upward: only a Data record writes, and its payload goes to the cursor (R52, R53). -/
theorem HexMove.writesUpward {par : Params} {u v : HexUnit} (h : HexMove par u v) : WritesUpward u v := by
  cases h with
  | @data address payload sum _ _ hlen hcap =>
    have hfit : u.cursor.toNat + payload.length < 2 ^ 32 := lt_of_le_of_lt hcap par.imageCapacity.isLt
    have hnat := toU32_toNat _ hfit
    constructor
    · rw [hnat]; omega
    · rw [hnat]; omega
    · intro a ha
      rw [hnat] at ha
      exact memRead?_memWriteBytes_outside _ ha
    · intro a hle hlt
      rw [hnat] at hlt
      obtain ⟨i, rfl⟩ := Nat.exists_eq_add_of_le hle
      have hi : i < payload.length := by omega
      rw [memRead?_memWriteBytes_add _ _ hi]
      simpa using hi
    · exact memWriteBytes_wf payload _ _
  | colon | counted | stored | failed | recordFailed | extAddr | eof => exact .of_eq rfl rfl

/-- HEX.CHAR writes upward: it runs one record at most, and counting a line writes nothing (R122). -/
theorem hexCharUnit_writesUpward (par : Params) (c : Byte) (u : HexUnit) :
    WritesUpward u (hexCharUnit par c u) := by
  cases hstate : u.hxState with
  | seek =>
    simp only [hexCharUnit, hstate, seekChar]
    split
    · exact .of_eq rfl rfl
    · split <;> exact .of_eq rfl rfl
  | collect =>
    have hline := (processLine_move (par := par) hstate).writesUpward
    have hchar : hexCharUnit par c u = collectChar par c u := by simp only [hexCharUnit, hstate]
    rw [hchar]
    obtain ⟨-, he⟩ | ⟨-, -, he⟩ | ⟨-, -, he⟩ | ⟨-, -, -, he⟩ | ⟨-, -, -, he⟩ := collectChar_cases par c u
    all_goals rw [he]
    · exact hline
    · exact hline
    · exact hline.congr rfl rfl
    · exact .of_eq rfl rfl
    · exact .of_eq rfl rfl
  | done | error =>
    simp only [hexCharUnit, hstate]
    exact .of_eq rfl rfl

/-- HEX.END writes upward: it runs one record at most, and MISSING_EOF writes nothing (R124). -/
theorem hexEndUnit_writesUpward (par : Params) (u : HexUnit) : WritesUpward u (hexEndUnit par u) := by
  cases hstate : u.hxState with
  | seek =>
    simp only [hexEndUnit, hstate]
    exact .of_eq rfl rfl
  | collect =>
    have hline := (processLine_move (par := par) hstate).writesUpward
    obtain ⟨-, he⟩ | ⟨-, -, he⟩ := hexEndUnit_collect par u hstate
    · rw [he]; exact hline
    · rw [he]; exact hline.congr rfl rfl
  | done | error =>
    simp only [hexEndUnit, hstate]
    exact .of_eq rfl rfl

/-- A control word writes the image upward. -/
theorem WordMove.writesUpward {w : Word16} {s t : State} (h : WordMove w s t) : WritesUpward s.u2 t.u2 := by
  cases h with
  | hexChar => exact hexCharUnit_writesUpward ..
  | hexEnd => exact hexEndUnit_writesUpward ..
  | sesStart _ hstart => rw [(execSesStart_frame hstart).2.1]; exact .of_eq rfl rfl
  | _ => exact .of_eq rfl rfl

/-- A step that is not RST writes the image upward. -/
theorem step_writesUpward {s t : State} (hno : noReset s) (h : step s = .next t) : WritesUpward s.u2 t.u2 := by
  obtain ⟨k, rest, -, rfl⟩ | ⟨w, rest, -, hword⟩ | ⟨rest, -, hses⟩ := step_cases_of_noReset hno h
  · exact .of_eq rfl rfl
  · exact hword.writesUpward
  · rw [hses.frame.2.1]; exact .of_eq rfl rfl

/-- Settles O49: the only writer is a control word, which runs one record at most. -/
theorem imageWriteOrder : Obligations.ImageWriteOrder := by
  intro s t hno h
  obtain ⟨hle, hbound, houtside, hinside, hwf⟩ := step_writesUpward hno h
  exact ⟨hle, hbound, houtside, hinside, hwf⟩

end Sys2Proof.Machine

/-! PROOF. U3's turn neither reads nor writes `crc_h` (40_crc.md R106; 70_reset_and_hazards.md R279): every operation of
the session engine commutes with a change of it. -/

namespace Sys2Proof.Machine

/-! ## Another `crc_h` -/

/-- The same state with another `crc_h`. -/
def withCrcH (c : Word16) (s : State) : State := { s with crcH := c }

/-- An operation that neither reads nor writes `crc_h`. -/
def CrcBlind (f : State → State) : Prop := ∀ c s, f (withCrcH c s) = withCrcH c (f s)

/-- The outcome of a step with another `crc_h` in its next state. -/
def outcomeWithCrcH (c : Word16) : Host.Outcome State Fault Refusal → Host.Outcome State Fault Refusal
  | .next s => .next (withCrcH c s)
  | .fault f => .fault f
  | .refused r => .refused r

/-- The result of a read with another `crc_h` in its state. -/
def readWithCrcH (c : Word16) : ReadResult → ReadResult
  | .settled s => .settled (withCrcH c s)
  | .reply i s => .reply i (withCrcH c s)

@[simp] theorem withCrcH_par (c : Word16) (s : State) : (withCrcH c s).par = s.par :=
  rfl

@[simp] theorem withCrcH_u3 (c : Word16) (s : State) : (withCrcH c s).u3 = s.u3 :=
  rfl

/-- `crc_h` does not decide the block index that a failing wait records. -/
@[simp] theorem waitBlk_withCrcH (c : Word16) (s : State) : waitBlk (withCrcH c s) = waitBlk s :=
  rfl

/-- `crc_h` does not decide where U3 stands. -/
@[simp] theorem atStep_withCrcH (a : SesStep) (c : Word16) (s : State) : atStep a (withCrcH c s) ↔ atStep a s :=
  Iff.rfl

/-- `crc_h` does not decide whether U3 reads a reply. -/
@[simp] theorem atRead_withCrcH (a : SesStep) (c : Word16) (s : State) : atRead a (withCrcH c s) ↔ atRead a s :=
  Iff.rfl

/-! ## The shared operations -/

/-- `crc_h` does not decide what a Send draws. -/
theorem drawSend_withCrcH (c : Word16) (s : State) :
    drawSend (withCrcH c s) = ((drawSend s).1, withCrcH c (drawSend s).2) := by
  simp only [drawSend, withCrcH]
  split <;> rfl

/-- `crc_h` does not decide what a read draws. -/
theorem drawRead_withCrcH (c : Word16) (s : State) :
    drawRead (withCrcH c s) = ((drawRead s).1, withCrcH c (drawRead s).2) := by
  simp only [drawRead, withCrcH]
  split <;> rfl

/-- `crc_h` does not decide the jitter of a Sleep. -/
theorem drawJitter_withCrcH (c : Word16) (s : State) :
    drawJitter (withCrcH c s) = ((drawJitter s).1, withCrcH c (drawJitter s).2) := by
  simp only [drawJitter, withCrcH]
  split <;> rfl

/-- Going to a step of the same stage. -/
theorem crcBlind_goStep (a : SesStep) : CrcBlind (goStep a) := fun _ _ => rfl

/-- Starting a wait. -/
theorem crcBlind_startWait (a : SesStep) : CrcBlind (startWait a) := fun _ _ => rfl

/-- A Send is as blind to `crc_h` as what it goes on with. -/
theorem crcBlind_sendMsg {onOk : State → State} (h : CrcBlind onOk) (op : SesOp) (blk : Word32) (m : List Byte) :
    CrcBlind (sendMsg op blk m onOk) := by
  intro c s
  have hdraw := drawSend_withCrcH c s
  cases hd : (drawSend s).1 with
  | ok =>
    rw [sendMsg_ok _ _ _ _ s hd, sendMsg_ok _ _ _ _ (withCrcH c s) (by rw [hdraw, hd]), hdraw, ← h]
    rfl
  | ioError p =>
    rw [sendMsg_ioError _ _ _ _ s p hd, sendMsg_ioError _ _ _ _ (withCrcH c s) p (by rw [hdraw, hd]), hdraw]
    rfl

/-- A Sleep moves the time only. -/
theorem crcBlind_sleepFor (d : Nat) : CrcBlind (sleepFor d) := by
  intro c s
  simp only [sleepFor, drawJitter_withCrcH]
  rfl

/-- A condition that does not ask for `crc_h`, before an operation that is blind to it. -/
theorem CrcBlind.ite {f : State → State} (hf : CrcBlind f) {p : State → Prop} [DecidablePred p]
    (hp : ∀ c s, p (withCrcH c s) ↔ p s) : CrcBlind fun s => if p s then f s else s := by
  intro c s
  by_cases h : p s
  · simp only [if_pos h, if_pos ((hp c s).2 h), hf c s]
  · simp only [if_neg h, if_neg (mt (hp c s).1 h)]

/-- What U3 does at a step is as blind to `crc_h` as its effect there. -/
theorem crcBlind_whenAt {f : State → State} (a : SesStep) (h : CrcBlind f) : CrcBlind (whenAt a f) :=
  h.ite fun _ _ => Iff.rfl

/-- `crc_h` is no operand of a chunk. -/
theorem chunk_withCrcH (c : Word16) (s : State) (k : Nat) : chunk (withCrcH c s) k = chunk s k := by
  have hfrom : ∀ n a, chunkFrom (withCrcH c s) a n = chunkFrom s a n := by
    intro n
    induction n with
    | zero => exact fun _ => rfl
    | succ n ih =>
      intro a
      have hbyte : chunkByte (withCrcH c s) a = chunkByte s a := rfl
      simp only [chunkFrom, hbyte, ih]
  exact hfrom _ _

/-! ## The instructions of a turn -/

/-- The erase-size declaration (42_session.md R175). -/
theorem crcBlind_sendEraseSize (size : BitVec 24) : CrcBlind (sendEraseSize size) := by
  intro c s
  obtain ⟨hlarge, he⟩ | ⟨hsmall, he⟩ := sendEraseSize_cases size s
  · rw [he]
    exact if_pos hlarge
  · rw [he, ← crcBlind_sendMsg (crcBlind_startWait _)]
    exact if_neg (Nat.not_lt.2 hsmall)

/-- The CRC part of a block: its CRC is U3's own (43_block_transfer.md R205; 40_crc.md R106). -/
theorem sendBlockCrc_withCrcH (x c : Word16) (s : State) :
    sendBlockCrc x (withCrcH c s) = outcomeWithCrcH c (sendBlockCrc x s) := by
  simp only [sendBlockCrc, withCrcH_u3, chunk_withCrcH]
  cases chunk s s.u3.blk.toNat with
  | error f => rfl
  | ok bytes =>
    exact congrArg Host.Outcome.next
      (crcBlind_sendMsg (crcBlind_startWait .blkWait) _ _ _ c { s with u3 := { s.u3 with crcS := crcOf s.par bytes } })

/-- The checks of an accepted signature reply (42_session.md R170, R171). -/
theorem crcBlind_acceptSignature (s0 : Byte) : CrcBlind (acceptSignature s0) := by
  intro c s
  simp only [acceptSignature, withCrcH_par, withCrcH_u3, apply_ite (withCrcH c)]
  rfl

/-- An accepted `'A'` acknowledgement (43_block_transfer.md R200, R201). -/
theorem acceptAddress_withCrcH (c : Word16) (s : State) :
    acceptAddress (withCrcH c s) = outcomeWithCrcH c (acceptAddress s) := by
  unfold acceptAddress
  by_cases h : s.u3.blockSize = 0
  · rw [if_pos h, withCrcH_u3, if_pos h]
    rfl
  · rw [if_neg h, withCrcH_u3, if_neg h]
    simp only [outcomeWithCrcH, apply_ite (withCrcH c)]
    rfl

/-- An accepted block acknowledgement (R207). -/
theorem crcBlind_acceptBlock : CrcBlind acceptBlock := by
  intro c s
  simp only [acceptBlock, withCrcH_u3, apply_ite (withCrcH c)]
  rfl

/-- An accepted block-size reply (42_session.md R174). -/
theorem acceptBlockSize_withCrcH (bs c : Word16) (s : State) :
    acceptBlockSize bs (withCrcH c s) = outcomeWithCrcH c (acceptBlockSize bs s) := by
  simp only [acceptBlockSize, withCrcH_par, withCrcH_u3]
  split_ifs
  · rfl
  · cases s.u3.kind <;> rfl

/-- RX.OK at each wait that it answers. -/
theorem execRxOk_withCrcH (c : Word16) (s : State) :
    execRxOk (withCrcH c s) = outcomeWithCrcH c (execRxOk s) := by
  simp only [execRxOk, atRead_withCrcH]
  split_ifs
  · rfl
  · rfl
  · rfl
  · exact acceptAddress_withCrcH c s
  · exact congrArg Host.Outcome.next (crcBlind_acceptBlock c s)
  · rfl

/-- An operation that is blind to `crc_h` answers the same next state but for it. -/
theorem CrcBlind.next_eq {f : State → State} (h : CrcBlind f) (c : Word16) (s : State) :
    Host.Outcome.next (f (withCrcH c s)) = outcomeWithCrcH c (.next (f s)) :=
  congrArg Host.Outcome.next (h c s)

/-- A message in which U3 goes straight on, or which starts a wait. -/
theorem crcBlind_message {onOk : State → State} (h : CrcBlind onOk) (a : SesStep) (op : SesOp) (blk : Word32)
    (m : List Byte) : CrcBlind (whenAt a (sendMsg op blk m onOk)) :=
  crcBlind_whenAt a (crcBlind_sendMsg h op blk m)

/-- A record, where a line has been collected: it runs on U2. -/
theorem crcBlind_record (f : Params → HexUnit → HexUnit) : CrcBlind fun s => whenCollecting (f s.par) s :=
  CrcBlind.ite (f := fun s => { s with u2 := f s.par s.u2 }) (fun _ _ => rfl) fun _ _ => Iff.rfl

/-- An instruction that is no control word neither reads nor writes `crc_h`. -/
theorem exec_withCrcH {i : Instr} (hi : formatOf i ≠ .cw) (c : Word16) (s : State) :
    exec i (withCrcH c s) = outcomeWithCrcH c (exec i s) := by
  cases i with
  | crcInit | crcUpdate | crcResult | hexChar | hexEnd | sesStart => exact absurd rfl hi
  | recData address payload cc => exact (crcBlind_record fun par => recordData par address payload cc).next_eq c s
  | recEof address payload cc => exact (crcBlind_record fun par => recordEof par address payload cc).next_eq c s
  | recExtAddr address payload cc =>
    exact (crcBlind_record fun par => recordExtAddr par address payload cc).next_eq c s
  | recUnsupported tt address payload cc =>
    exact (crcBlind_record fun par => recordUnsupported par tt address payload cc).next_eq c s
  | txResetFrame | txPing1 | txPing2 | txExit =>
    exact (crcBlind_message (crcBlind_goStep _) _ _ _ _).next_eq c s
  | txReadSig | txSetDev | txReadVer | txReadBsize | txErase | txSetAddr =>
    exact (crcBlind_message (crcBlind_startWait _) _ _ _ _).next_eq c s
  | txEraseSize size => exact (crcBlind_whenAt .xsizeSend (crcBlind_sendEraseSize size)).next_eq c s
  | txBlock part =>
    cases part with
    | header | data => exact (crcBlind_message (crcBlind_goStep _) _ _ _ _).next_eq c s
    | crc x =>
      simp only [exec, execTxBlock, atStep_withCrcH]
      split_ifs
      · exact sendBlockCrc_withCrcH x c s
      · rfl
  | rxIdent =>
    have henter : CrcBlind fun s =>
        goStage .signatureExchange .sigSend { s with u3 := { s.u3 with matchIdx := 4 } } := fun _ _ => rfl
    exact (henter.ite (p := fun s => atStep .dScan1 s ∨ atStep .dScan2 s) fun _ _ => Iff.rfl).next_eq c s
  | rxSigReply s0 s1 => exact ((crcBlind_acceptSignature s0).ite (atRead_withCrcH .sigWait)).next_eq c s
  | rxVerReply => exact ((crcBlind_goStep .bsizeSend).ite (atRead_withCrcH .verWait)).next_eq c s
  | rxOk => exact execRxOk_withCrcH c s
  | rxBsizeReply hi lo =>
    simp only [exec, execRxBsizeReply, atRead_withCrcH]
    split_ifs
    · exact acceptBlockSize_withCrcH _ c s
    · rfl

/-! ## The turn -/

/-- `crc_h` does not decide U3's action. -/
theorem u3Fetch_withCrcH (c : Word16) (s : State) : u3Fetch (withCrcH c s) = u3Fetch s := by
  have hact : ∀ a, u3ActionAt (withCrcH c s) a = u3ActionAt s a := by
    intro a
    cases a with
    | blkData | blkCrc => simp only [u3ActionAt, chunk_withCrcH, withCrcH_u3, withCrcH_par]
    | _ => rfl
  simp only [u3Fetch, hact, withCrcH_u3]

/-- The Sleep steps. -/
theorem crcBlind_u3Sleep : CrcBlind u3Sleep := by
  intro c s
  simp only [u3Sleep, withCrcH_u3, withCrcH_par, crcBlind_sleepFor _ c s, apply_ite (withCrcH c)]
  rfl

/-- The READ phase of a wait (R164). -/
theorem waitRead_withCrcH (w : WaitSpec) (c : Word16) (s : State) :
    waitRead w (withCrcH c s) = readWithCrcH c (waitRead w s) := by
  have hrx : ∀ r, withRx r (withCrcH c s) = withCrcH c (withRx r s) := by
    intro r
    simp only [withRx, drawRead_withCrcH]
    rfl
  simp only [waitRead, waitBlk_withCrcH, hrx, drawRead_withCrcH, withCrcH_u3, withCrcH_par]
  cases (drawRead s).1 with
  | ioError => rfl
  | bytes r =>
    dsimp only
    split_ifs
    · rfl
    · cases decodeRx s.par.vRespLen w.kind (s.u3.rxbuf ++ r) with
      | ok i => rfl
      | error e => cases e <;> rfl
    · rfl
    · rfl

/-- A scan point (R166 to R168). -/
theorem scanRead_withCrcH (again : SesStep) (c : Word16) (s : State) :
    scanRead again (withCrcH c s) = readWithCrcH c (scanRead again s) := by
  have hscan : ∀ r, withScan r (withCrcH c s) = withCrcH c (withScan r s) := by
    intro r
    simp only [withScan, drawRead_withCrcH]
    rfl
  simp only [scanRead, hscan, drawRead_withCrcH, withCrcH_u3, withCrcH_par]
  cases (drawRead s).1 with
  | ioError => rfl
  | bytes r =>
    dsimp only
    split_ifs <;> rfl

/-- The read steps. -/
theorem u3Read_withCrcH (c : Word16) (s : State) : u3Read (withCrcH c s) = readWithCrcH c (u3Read s) := by
  simp only [u3Read, scanRead_withCrcH, waitRead_withCrcH, withCrcH_u3, withCrcH_par]
  split_ifs
  · rfl
  · rfl
  · cases waitOf s.par s.u3.sesStep <;> rfl

/-- What a step sends is no control word. -/
theorem formatOf_send {s : State} {i : Instr} (h : u3Fetch s = .ok (.send i)) : formatOf i ≠ .cw := by
  obtain hidle | ⟨-, hact⟩ := u3Fetch_cases h
  · cases hidle
  generalize s.u3.sesStep = a at hact
  cases a with
  | sigWait | setdevWait | verWait | bsizeWait | xsizeWait | eraseWait | addrWait | blkWait =>
    exact absurd (Except.ok.inj hact) (waitAction_ne_send s i)
  | blkData | blkCrc =>
    simp only [u3ActionAt] at hact
    split at hact <;> cases hact
    nofun
  | _ => cases hact <;> nofun

/-- What a wait collects is a reply of its kind (30_encoding.md R84). -/
theorem formatOf_decodeRx {vLen : Nat} {kind : ReplyKind} {buf : List Byte} {i : Instr}
    (h : decodeRx vLen kind buf = .ok i) : formatOf i = .rx kind := by
  cases kind with
  | ident | ver =>
    simp only [decodeRx] at h
    split at h <;> cases h
    rfl
  | sig =>
    simp only [decodeRx] at h
    split at h <;> cases h
    rfl
  | ok => rw [decodeRx_ok_eq h]; rfl
  | bsize =>
    simp only [decodeRx] at h
    split at h
    · split at h <;> cases h
      rfl
    · cases h

/-- What a read completes is no control word. -/
theorem formatOf_reply {s s' : State} {i : Instr} (h : u3Read s = .reply i s') : formatOf i ≠ .cw := by
  have hscan : ∀ b, scanRead b s = .reply i s' → formatOf i ≠ .cw := by
    intro b hb
    obtain ⟨-, he⟩ | ⟨r, -, ⟨-, he⟩ | ⟨-, -, he⟩ | ⟨-, -, he⟩⟩ := scanRead_cases b s
    all_goals rw [he] at hb; cases hb
    nofun
  unfold u3Read at h
  split at h
  · exact hscan _ h
  split at h
  · exact hscan _ h
  split at h
  · rename_i w _
    obtain ⟨-, he⟩ | ⟨r, -, ⟨-, he⟩ | ⟨-, ⟨_, hdec, he⟩ | ⟨_, -, he⟩⟩ | ⟨-, -, he⟩ | ⟨-, -, he⟩⟩ := waitRead_cases w s
    all_goals rw [he] at h; cases h
    rw [formatOf_decodeRx hdec]
    nofun
  · cases h

/-- U3's turn with another `crc_h` is the same turn (40_crc.md R106). -/
theorem u3Turn_withCrcH (c : Word16) (s : State) : u3Turn (withCrcH c s) = outcomeWithCrcH c (u3Turn s) := by
  simp only [u3Turn, u3Fetch_withCrcH, u3Read_withCrcH]
  cases hf : u3Fetch s with
  | error f => rfl
  | ok act =>
    cases act with
    | idle => rfl
    | sleep => exact crcBlind_u3Sleep.next_eq c s
    | send i => exact exec_withCrcH (formatOf_send hf) c s
    | read =>
      cases hr : u3Read s with
      | settled t => rfl
      | reply i s' => exact exec_withCrcH (formatOf_reply hr) c s'

/-- Settles O48: U3's turn commutes with a change of `crc_h`. -/
theorem crcIndependence : Obligations.CrcIndependence := by
  intro s t rest c hnext h
  have hnext' : u3Next (withCrcH c s) rest := hnext
  calc step (withCrcH c s)
    _ = u3Turn (withCrcH c (withEvents rest s)) := step_of_u3Next hnext'
    _ = outcomeWithCrcH c (step s) := by rw [u3Turn_withCrcH, step_of_u3Next hnext]
    _ = .next (withCrcH c t) := by rw [h]; rfl

end Sys2Proof.Machine

/-! PROOF. The control words (30_encoding.md R70 to R74): which decode, and what a reserved one does. -/

namespace Sys2Proof.Machine

/-! ## The encoding of a control word -/

/-- The op of a word is its first byte (30_encoding.md R70). -/
@[simp] theorem cwOp_append (op data : Byte) : cwOp (op ++ data) = op :=
  BitVec.extractLsb'_append_eq_left

/-- The data of a word is its second byte (R70). -/
@[simp] theorem cwData_append (op data : Byte) : cwData (op ++ data) = data :=
  BitVec.extractLsb'_append_eq_right

/-- The six operations of a control word (R71). -/
theorem formatOf_eq_cw {i : Instr} (h : formatOf i = .cw) :
    (∃ b, i = .crcUpdate b) ∨ (∃ c, i = .hexChar c) ∨ i = .crcInit ∨ i = .crcResult ∨ i = .hexEnd ∨
      i = .sesStart := by
  cases i with
  | crcInit | crcUpdate | crcResult | hexChar | hexEnd | sesStart => simp
  | txBlock part => cases part <;> cases h
  | _ => cases h

/-- A word that decodes has its op and data as the encoding of its instruction (R71, R72). -/
theorem encode_of_decodeCw {w : Word16} {i : Instr} (h : decodeCw w = .ok i) :
    encode i = [cwOp w, cwData w] ∧ formatOf i = .cw := by
  simp only [decodeCw] at h
  split_ifs at h with hop hop hop hop hop hop
  · obtain ⟨hdata, rfl⟩ := cwPlain_ok h
    rw [hop, hdata]; exact ⟨rfl, rfl⟩
  · cases h
    rw [hop]; exact ⟨rfl, rfl⟩
  · obtain ⟨hdata, rfl⟩ := cwPlain_ok h
    rw [hop, hdata]; exact ⟨rfl, rfl⟩
  · cases h
    rw [hop]; exact ⟨rfl, rfl⟩
  · obtain ⟨hdata, rfl⟩ := cwPlain_ok h
    rw [hop, hdata]; exact ⟨rfl, rfl⟩
  · obtain ⟨hdata, rfl⟩ := cwPlain_ok h
    rw [hop, hdata]; exact ⟨rfl, rfl⟩

/-- The two bytes of a control word, its op first, decode to its instruction (R71; log 22). -/
theorem decodeCw_encode {i : Instr} (hcw : formatOf i = .cw) :
    ∃ op data, encode i = [op, data] ∧ decodeCw (op ++ data) = .ok i := by
  obtain ⟨b, rfl⟩ | ⟨c, rfl⟩ | rfl | rfl | rfl | rfl := formatOf_eq_cw hcw
  · exact ⟨_, _, rfl, by simp [decodeCw]⟩
  · exact ⟨_, _, rfl, by simp [decodeCw]⟩
  · exact ⟨_, _, rfl, rfl⟩
  · exact ⟨_, _, rfl, rfl⟩
  · exact ⟨_, _, rfl, rfl⟩
  · exact ⟨_, _, rfl, rfl⟩

/-- A word decodes to the instruction that its op and data encode, and to no other (R71 to R73). -/
theorem decodeCw_eq_ok_iff (w : Word16) (i : Instr) :
    decodeCw w = .ok i ↔ encode i = [cwOp w, cwData w] ∧ formatOf i = .cw := by
  refine ⟨encode_of_decodeCw, fun ⟨hbytes, hcw⟩ => ?_⟩
  obtain ⟨op, data, henc, hdec⟩ := decodeCw_encode hcw
  obtain ⟨rfl, rfl⟩ : cwOp w = op ∧ cwData w = data := by simpa using hbytes.symm.trans henc
  rwa [cwOp_append_cwData] at hdec

/-! ## The obligations -/

/-- Settles O2: a word decodes to what its op and data encode, so the six operations' encodings are the words that
decode. -/
theorem controlWordsDecodeExactly : Obligations.ControlWordsDecodeExactly := by
  intro w
  refine ⟨⟨fun ⟨i, h⟩ => ?_, fun h => ?_⟩, fun i => encode_of_decodeCw⟩
  · obtain ⟨hbytes, hcw⟩ := encode_of_decodeCw h
    obtain ⟨b, rfl⟩ | ⟨c, rfl⟩ | rfl | rfl | rfl | rfl := formatOf_eq_cw hcw
    all_goals
      obtain ⟨hop, hdata⟩ : _ = cwOp w ∧ _ = cwData w := by simpa [encode] using hbytes
      simp [← hop, ← hdata]
  · simp only [decodeCw_eq_ok_iff]
    obtain hop | hop | ⟨hop | hop | hop | hop, hdata⟩ := h
    · exact ⟨.crcUpdate (cwData w), by rw [hop]; rfl, rfl⟩
    · exact ⟨.hexChar (cwData w), by rw [hop]; rfl, rfl⟩
    · exact ⟨.crcInit, by rw [hop, hdata]; rfl, rfl⟩
    · exact ⟨.crcResult, by rw [hop, hdata]; rfl, rfl⟩
    · exact ⟨.hexEnd, by rw [hop, hdata]; rfl, rfl⟩
    · exact ⟨.sesStart, by rw [hop, hdata]; rfl, rfl⟩

/-- Settles O3: the schedule gives the word, and a word that does not decode sets the mark only. -/
theorem reservedWordRefused : Obligations.ReservedWordRefused := by
  intro s w rest e hev hdec
  rw [step_of_word hev]
  simp only [wordStep, hdec]
  rfl

end Sys2Proof.Machine

/-! PROOF. The text of a HEX line (30_encoding.md R76 to R80): digits, digit pairs, and the record that a record's own
line decodes to. -/

namespace Sys2Proof.Machine

/-! ## Digits -/

/-- Settles O4: in each of the three ranges the digit is the character less a constant, and the value is below 16. -/
theorem hexDigitValues : Obligations.HexDigitValues := by
  intro c
  simp only [hexval, BitVec.le_def, BitVec.reduceToNat]
  split_ifs with hdec hupper hlower
  · exact congrArg some (by simp; omega)
  · exact congrArg some (by simp; omega)
  · exact congrArg some (by simp; omega)
  · rfl

/-- A digit that the encoder writes has the value it was written for (R78). -/
@[simp] theorem hexval_hexDigit (n : BitVec 4) : hexval (hexDigit n) = some n := by
  revert n; decide

/-- A byte is its two digits, the high one first (20_memory.md R57). -/
theorem hexByte_hexDigit (b : Byte) : hexByte (hexDigit (b.extractLsb' 4 4)) (hexDigit (b.extractLsb' 0 4)) = b := by
  simp only [hexByte, hexval_hexDigit, Option.getD_some]
  rw [BitVec.extractLsb'_append_extractLsb'_eq_extractLsb' (by rfl)]
  exact BitVec.extractLsb'_eq_self

/-! ## Texts of digit pairs -/

/-- Every byte is two digits (20_memory.md R57). -/
@[simp] theorem hexText_length (bytes : List Byte) : (hexText bytes).length = 2 * bytes.length := by
  induction bytes with
  | nil => rfl
  | cons b rest ih => simp only [hexText, List.length_cons, ih]; omega

/-- The digits of bytes in a row are their digits in a row. -/
theorem hexText_append (xs ys : List Byte) : hexText (xs ++ ys) = hexText xs ++ hexText ys := by
  induction xs with
  | nil => rfl
  | cons b rest ih => simp only [List.cons_append, hexText, ih]

/-- A text of digit pairs reads back (R57, R78). -/
@[simp] theorem hexBytes_hexText (bytes : List Byte) : hexBytes (hexText bytes) = bytes := by
  induction bytes with
  | nil => rfl
  | cons b rest ih => simp only [hexText, hexBytes, hexByte_hexDigit, ih]

/-- The encoder writes hex digits only (R78). -/
@[simp] theorem badDigitFrom_hexText (i : Nat) (bytes : List Byte) : badDigitFrom i (hexText bytes) = none := by
  induction bytes generalizing i with
  | nil => rfl
  | cons b rest ih => simp [hexText, badDigitFrom, ih]

/-! ## The line of a record -/

/-- The four bytes before the payload: BB, AAAA, TT (R76). -/
def recordHeader (tt : Byte) (address : Word16) (payload : List Byte) : List Byte :=
  [BitVec.ofNat 8 payload.length, cwOp address, cwData address, tt]

/-- A line is its `:`, its header and the rest, as digits (R76). -/
theorem encodeLine_eq (tt : Byte) (address : Word16) (payload : List Byte) (cc : Byte) :
    encodeLine tt address payload cc =
      0x3A :: (hexText (recordHeader tt address payload) ++ hexText (payload ++ [cc])) := by
  rw [← hexText_append]
  rfl

/-- A line has the length that its byte count asks for (41_hex_parser.md R128). -/
theorem encodeLine_length (tt : Byte) (address : Word16) (payload : List Byte) (cc : Byte) :
    (encodeLine tt address payload cc).length = 11 + 2 * payload.length := by
  simp only [encodeLine_eq, recordHeader, List.length_cons, List.length_append, List.length_nil, hexText_length]
  omega

/-- Offsets 1 to 8 of a line are its header (R127). -/
theorem encodeLine_header (tt : Byte) (address : Word16) (payload : List Byte) (cc : Byte) :
    ((encodeLine tt address payload cc).drop 1).take 8 = hexText (recordHeader tt address payload) := by
  rw [encodeLine_eq]
  exact List.take_left' (by simp [recordHeader])

/-- From offset 9 on a line has its payload and its checksum (R129, R130). -/
theorem encodeLine_tail (tt : Byte) (address : Word16) (payload : List Byte) (cc : Byte) :
    (encodeLine tt address payload cc).drop 9 = hexText (payload ++ [cc]) := by
  rw [encodeLine_eq]
  exact List.drop_left' (by simp [recordHeader])

/-- A record's own line decodes to the record (R126 to R130). -/
theorem decodeLine_encodeLine {minLen : Nat} {tt : Byte} {address : Word16} {payload : List Byte} {cc : Byte}
    (hpayload : payload.length ≤ 255) (hlen : minLen ≤ (encodeLine tt address payload cc).length) :
    decodeLine minLen (encodeLine tt address payload cc) = .ok ⟨tt, address, payload, cc⟩ := by
  have hbb : (BitVec.ofNat 8 payload.length).toNat = payload.length := by
    rw [BitVec.toNat_ofNat]; omega
  rw [encodeLine_length] at hlen
  simp [decodeLine, Nat.not_lt.2 hlen, encodeLine_header, encodeLine_tail, recordHeader, encodeLine_length, hbb,
    cwOp_append_cwData, -BitVec.toNat_ofNat, -List.drop_one]

/-- The record of a type byte from 0x03 on is unsupported (R131). -/
theorem recType_of_three_le {tt : Byte} (h : 3 ≤ tt.toNat) : recType tt = .unsupported tt := by
  have hne : ∀ n : Byte, n.toNat < 3 → tt ≠ n := fun n hn he => by rw [he] at h; omega
  simp only [recType, if_neg (hne 0x00 (by decide)), if_neg (hne 0x01 (by decide)), if_neg (hne 0x02 (by decide))]

/-- The bytes of a record, in the place of a HEX line, are the record's instruction (R76, R79). -/
theorem decode_encodeLine {par : Params} {tt : Byte} {address : Word16} {payload : List Byte} {cc : Byte}
    (hpayload : payloadFits payload = true) (hlen : par.minLineLen ≤ (encodeLine tt address payload cc).length) :
    decode par .hexLine (encodeLine tt address payload cc) = .ok (recordInstr ⟨tt, address, payload, cc⟩) := by
  simp only [decode, decodeLine_encodeLine (of_decide_eq_true hpayload) hlen]

end Sys2Proof.Machine

/-! PROOF. Decoding an encoding gives the instruction back, in all four formats (30_encoding.md R71, R76, R82, R84,
R86). -/

namespace Sys2Proof.Machine

/-! ## Fields on the wire -/

/-- A 16-bit field is its two bytes (20_memory.md R56). -/
theorem be16_append (hi lo : Byte) : be16 (hi ++ lo) = [hi, lo] :=
  congrArg₂ (fun x y => [x, y]) (cwOp_append hi lo) (cwData_append hi lo)

/-- A 24-bit field is its three bytes (R56). -/
theorem be24_append (b2 b1 b0 : Byte) : be24 (b2 ++ b1 ++ b0) = [b2, b1, b0] := by
  have h2 : (b2 ++ b1 ++ b0).extractLsb' 16 8 = b2 :=
    (BitVec.extractLsb'_append_eq_of_le (by decide)).trans BitVec.extractLsb'_append_eq_left
  have h1 : (b2 ++ b1 ++ b0).extractLsb' 8 8 = b1 :=
    (BitVec.extractLsb'_append_eq_of_le (by decide)).trans BitVec.extractLsb'_append_eq_right
  have h0 : (b2 ++ b1 ++ b0).extractLsb' 0 8 = b0 := BitVec.extractLsb'_append_eq_right
  simp only [be24, h2, h1, h0]

/-- Every 24-bit value is three bytes in a row. -/
theorem exists_three_bytes (w : BitVec 24) : ∃ b2 b1 b0 : Byte, w = b2 ++ b1 ++ b0 := by
  refine ⟨w.extractLsb' 16 8, w.extractLsb' 8 8, w.extractLsb' 0 8, ?_⟩
  rw [BitVec.extractLsb'_append_extractLsb'_eq_extractLsb' (by rfl),
    BitVec.extractLsb'_append_extractLsb'_eq_extractLsb' (by rfl)]
  exact BitVec.extractLsb'_eq_self.symm

/-! ## The round trip -/

/-- Control words (R71). -/
theorem decode_encode_of_cw (par : Params) {i : Instr} (hcw : formatOf i = .cw) :
    decode par .cw (encode i) = .ok i := by
  obtain ⟨op, data, henc, hdec⟩ := decodeCw_encode hcw
  simp only [henc, decode, hdec]

/-- Block parts, each in its own place (R82). -/
theorem decode_encode_txBlock (par : Params) (part : BlockPart) :
    decode par (formatOf (.txBlock part)) (encode (.txBlock part)) = .ok (.txBlock part) := by
  cases part with
  | header bs =>
    rw [← cwOp_append_cwData bs]
    simp [formatOf, encode, be16_append, decode, decodeTx]
  | data chunk => exact if_pos rfl
  | crc c => exact congrArg (fun w => Except.ok (Instr.txBlock (.crc w))) (cwOp_append_cwData c)

/-- Settles O1: by the constructors, each through its own format's round trip. -/
theorem decodeOfEncode : Obligations.DecodeOfEncode := by
  intro par i hwf hfits
  cases i with
  | crcInit | crcUpdate | crcResult | hexChar | hexEnd | sesStart => exact decode_encode_of_cw par rfl
  | recData | recEof | recExtAddr => exact decode_encodeLine hwf (of_decide_eq_true hfits)
  | recUnsupported tt address payload cc =>
    obtain ⟨htt, hpayload⟩ : 3 ≤ tt.toNat ∧ payloadFits payload = true := by simpa [Instr.wf] using hwf
    have hinstr : recordInstr ⟨tt, address, payload, cc⟩ = .recUnsupported tt address payload cc := by
      simp only [recordInstr, recType_of_three_le htt]
    exact (decode_encodeLine hpayload (of_decide_eq_true hfits)).trans (congrArg Except.ok hinstr)
  | txResetFrame | txPing1 | txPing2 | txReadSig | txSetDev | txReadVer | txReadBsize | txErase | txSetAddr
  | txExit => rfl
  | txEraseSize size =>
    obtain ⟨b2, b1, b0, rfl⟩ := exists_three_bytes size
    simp [formatOf, encode, be24_append, decode, decodeTx]
  | txBlock part => exact decode_encode_txBlock par part
  | rxIdent | rxSigReply | rxOk | rxBsizeReply => rfl
  | rxVerReply content =>
    have hlen : content.length = par.vRespLen := of_decide_eq_true hfits
    simp [formatOf, encode, decode, decodeRx, hlen]

/-- Settles O5: each word is read through its format's decoder. -/
theorem sampleWordsDecode : Obligations.SampleWordsDecode :=
  ⟨rfl, rfl, rfl, rfl, rfl, rfl, rfl, rfl⟩

end Sys2Proof.Machine

/-! PROOF. An ExtendedAddress record (30_encoding.md R81; 41_hex_parser.md R137). -/

namespace Sys2Proof.Machine

/-- A record at a collected line is U2's instruction (41_hex_parser.md R134). -/
theorem exec_recExtAddr_of_collect {s : State} {address : Word16} {payload : List Byte} {cc : Byte}
    (h : s.u2.hxState = .collect) :
    exec (.recExtAddr address payload cc) s = .next { s with u2 := recordExtAddr s.par address payload cc s.u2 } :=
  congrArg Host.Outcome.next (if_pos h)

/-- A record whose checksum is not a strict error is applied by its builder (R133, R134). -/
theorem acceptRecord_of_accepted {par : Params} {tt : Byte} {address : Word16} {payload : List Byte} {cc : Byte}
    {build : HexUnit → HexUnit} {u : HexUnit}
    (h : recordSum tt address payload cc = 0 ∨ par.strictChecksum = false) :
    acceptRecord par tt address payload cc build u =
      backToSeek (build (afterDecode (recordSum tt address payload cc) u)) := by
  obtain ⟨hsum, hstrict, -⟩ | ⟨-, he⟩ := acceptRecord_cases par tt address payload cc build u
  · exact absurd hstrict (by rw [h.resolve_left hsum]; decide)
  · exact he

/-- The offset of a type 02 record is its two payload bytes, shifted left by 4 (30_encoding.md R81). -/
theorem extOffset_eq_shift (p0 p1 : Byte) : extOffset p0 p1 = (p0 ++ p1).setWidth 32 <<< 4 := by
  have h0 := p0.isLt
  have h1 := p1.isLt
  apply BitVec.eq_of_toNat_eq
  rw [extOffset_toNat]
  simp only [BitVec.toNat_shiftLeft, BitVec.toNat_setWidth, BitVec.toNat_append]
  rw [← Nat.shiftLeft_add_eq_or_of_lt (by omega), Nat.shiftLeft_eq, Nat.shiftLeft_eq]
  omega

/-- Settles O22: the offset's arithmetic, and the builder's three cases. -/
theorem extAddrRecordSetsBase : Obligations.ExtAddrRecordSetsBase := by
  refine ⟨fun p0 p1 => ?_, ?_⟩
  · have h0 := p0.isLt
    have h1 := p1.isLt
    rw [extOffset_toNat]
    exact ⟨by omega, by omega, extOffset_eq_shift p0 p1⟩
  intro s address payload cc hcollect hsum u
  have hrecord : exec (.recExtAddr address payload cc) s =
      .next { s with u2 := backToSeek (buildExtAddr payload u) } := by
    rw [exec_recExtAddr_of_collect hcollect, recordExtAddr, acceptRecord_of_accepted hsum]
    rfl
  rw [hrecord]
  obtain ⟨hshort, he⟩ | ⟨q0, q1, rest, rfl, hcases⟩ := buildExtAddr_cases payload u
  · rw [he, backToSeek_of_ne (by simp), toU32_of_lt _ (by omega)]
    exact ⟨fun _ => rfl, fun p0 p1 more h => by simp [h] at hshort⟩
  · refine ⟨fun h => by simp at h, fun p0 p1 more h => ?_⟩
    obtain ⟨rfl, rfl, rfl⟩ : q0 = p0 ∧ q1 = p1 ∧ rest = more := by simpa using h
    obtain ⟨hgap, he⟩ | ⟨hcursor, he⟩ := hcases
    · rw [he, backToSeek_of_ne (by simp)]
      exact ⟨fun _ => rfl, fun h => absurd h hgap⟩
    · rw [he, backToSeek_of_collect (by exact hcollect)]
      exact ⟨fun h => absurd hcursor h, fun _ => rfl⟩

end Sys2Proof.Machine

/-! PROOF. A Send that goes out whole, for every message but the CRC part of a block (20_memory.md R60; 30_encoding.md
R82): the bytes in `tx`, and the next step or the started wait. -/

namespace Sys2Proof.Machine

/-- A message that no wait follows: its bytes are in `tx`, and U3 goes on to the next step (42_session.md R165,
R166). -/
theorem whenAt_sendMsg_goStep_ok {s : State} {a b : SesStep} {op : SesOp} {blk : Word32} {m : List Byte}
    (hd : (drawSend s).1 = .ok) (hat : atStep a s) :
    whenAt a (sendMsg op blk m (goStep b)) s =
      { s with env := (drawSend s).2.env, u3 := { s.u3 with tx := s.u3.tx ++ m, sesStep := b } } := by
  rw [whenAt_pos _ _ _ hat, sendMsg_ok _ _ _ _ s hd, drawSend_eq]
  rfl

/-- What a message that starts a wait leaves: its bytes in `tx`, an empty buffer, and the wait's own step in its SLEEP
phase from now on (R164). -/
def sentAndWaiting (m : List Byte) (wait : SesStep) (s : State) : State :=
  { s with
    env := (drawSend s).2.env
    u3 := { s.u3 with tx := s.u3.tx ++ m, rxbuf := [], wStart := s.u3.t, wPhase := .sleep, sesStep := wait } }

/-- A Send before a wait. -/
theorem sendMsg_startWait_ok {s : State} {wait : SesStep} {op : SesOp} {blk : Word32} {m : List Byte}
    (hd : (drawSend s).1 = .ok) : sendMsg op blk m (startWait wait) s = sentAndWaiting m wait s := by
  rw [sendMsg_ok _ _ _ _ s hd, drawSend_eq]
  rfl

/-- A message that starts a wait. -/
theorem whenAt_sendMsg_startWait_ok {s : State} {a wait : SesStep} {op : SesOp} {blk : Word32} {m : List Byte}
    (hd : (drawSend s).1 = .ok) (hat : atStep a s) :
    whenAt a (sendMsg op blk m (startWait wait)) s = sentAndWaiting m wait s :=
  (whenAt_pos _ _ _ hat).trans (sendMsg_startWait_ok hd)

/-- Settles O28: each is one Send at its step. -/
theorem unansweredMessages : Obligations.UnansweredMessages := by
  intro s hd env
  refine ⟨fun hat => ?_, fun hat => ?_, fun hat => ?_, fun hat hi lo => ?_, fun hat bytes => ?_, fun hat => ?_⟩
  · exact congrArg Host.Outcome.next (whenAt_sendMsg_goStep_ok hd hat)
  · exact congrArg Host.Outcome.next (whenAt_sendMsg_goStep_ok hd hat)
  · exact congrArg Host.Outcome.next (whenAt_sendMsg_goStep_ok hd hat)
  · have hbytes : encode (.txBlock (.header (hi ++ lo))) = [0x42, hi, lo, 0x46] := by
      simp [encode, be16_append]
    rw [← hbytes]
    exact congrArg Host.Outcome.next (whenAt_sendMsg_goStep_ok hd hat)
  · exact congrArg Host.Outcome.next (whenAt_sendMsg_goStep_ok hd hat)
  · exact congrArg Host.Outcome.next (whenAt_sendMsg_goStep_ok hd hat)

/-- Settles O29: each is one Send at its step, ERASE_SIZE behind its range check. -/
theorem answeredMessages : Obligations.AnsweredMessages := by
  intro s sent
  refine ⟨fun hat hlarge size => ?_, fun hd => ⟨fun hat => ?_, fun hat sig => ?_, fun hat => ?_, fun hat => ?_,
    fun hat hsmall b2 b1 b0 => ?_, fun hat => ?_, fun hat => ?_⟩⟩
  · exact congrArg Host.Outcome.next ((whenAt_pos _ _ _ hat).trans (if_pos hlarge))
  · exact congrArg Host.Outcome.next (whenAt_sendMsg_startWait_ok hd hat)
  · exact congrArg Host.Outcome.next (whenAt_sendMsg_startWait_ok hd hat)
  · exact congrArg Host.Outcome.next (whenAt_sendMsg_startWait_ok hd hat)
  · exact congrArg Host.Outcome.next (whenAt_sendMsg_startWait_ok hd hat)
  · have hbytes : encode (.txEraseSize (b2 ++ b1 ++ b0)) = [0x58, b2, b1, b0] := by
      simp only [encode, be24_append]
    have hsend : sendEraseSize (b2 ++ b1 ++ b0) s = sentAndWaiting [0x58, b2, b1, b0] .xsizeWait s := by
      rw [sendEraseSize, if_neg (Nat.not_lt.2 hsmall), hbytes, sendMsg_startWait_ok hd]
    exact congrArg Host.Outcome.next ((whenAt_pos _ _ _ hat).trans hsend)
  · exact congrArg Host.Outcome.next (whenAt_sendMsg_startWait_ok hd hat)
  · exact congrArg Host.Outcome.next (whenAt_sendMsg_startWait_ok hd hat)

end Sys2Proof.Machine

/-! PROOF. The CRC unit (40_crc.md): the shift steps as an iterated linear map, the CRC of a byte sequence as a fold,
and the three control words. -/

namespace Sys2Proof.Machine

/-! ## Shift steps -/

/-- Bit 15 of the accumulator decides whether a shift step XORs the polynomial (40_crc.md R103). -/
theorem crcShift_eq_getLsbD (poly c : Word16) :
    crcShift poly c = if c.getLsbD 15 = true then (c <<< 1) ^^^ poly else c <<< 1 := by
  rw [crcShift, BitVec.msb_eq_getLsbD_last]

/-- A shift step as one sum over GF(2): the shifted accumulator, and the polynomial times the top bit. -/
theorem crcShift_eq_xor (poly c : Word16) : crcShift poly c = (c <<< 1) ^^^ (if c.msb then poly else 0) := by
  unfold crcShift
  split
  · rfl
  · exact BitVec.xor_zero.symm

/-- A shift step is linear over GF(2): where both top bits are 1, the polynomial cancels (R107). -/
theorem crcShift_xor (poly c1 c2 : Word16) :
    crcShift poly (c1 ^^^ c2) = crcShift poly c1 ^^^ crcShift poly c2 := by
  have hpoly : (if (c1 ^^^ c2).msb then poly else 0) =
      (if c1.msb then poly else 0) ^^^ (if c2.msb then poly else 0) := by
    rw [BitVec.msb_xor]
    cases c1.msb <;> cases c2.msb <;> simp
  simp only [crcShift_eq_xor, hpoly, BitVec.shiftLeft_xor_distrib]
  ac_rfl

/-- Under polynomial 0 a shift step only shifts (R108). -/
theorem crcShift_zero_poly (c : Word16) : crcShift 0 c = c <<< 1 := by
  rw [crcShift_eq_xor, ite_self]
  exact BitVec.xor_zero

/-- The shift steps are the shift step iterated (R103). -/
theorem crcShifts_eq_iterate (poly : Word16) (n : Nat) (c : Word16) :
    crcShifts poly n c = (crcShift poly)^[n] c := by
  induction n generalizing c with
  | zero => rfl
  | succ n ih => exact ih (crcShift poly c)

/-- A run of shift steps can be cut in two. -/
theorem crcShifts_add (poly : Word16) (m n : Nat) (c : Word16) :
    crcShifts poly (m + n) c = crcShifts poly m (crcShifts poly n c) := by
  simp only [crcShifts_eq_iterate, Function.iterate_add_apply]

/-- Every run of shift steps is linear over GF(2) (R107). -/
theorem crcShifts_xor (poly : Word16) (n : Nat) (c1 c2 : Word16) :
    crcShifts poly n (c1 ^^^ c2) = crcShifts poly n c1 ^^^ crcShifts poly n c2 := by
  induction n generalizing c1 c2 with
  | zero => rfl
  | succ n ih => simp only [crcShifts, crcShift_xor, ih]

/-- Under polynomial 0 the shift steps shift the accumulator out (R108). -/
theorem crcShifts_zero_poly (n : Nat) (c : Word16) : crcShifts 0 n c = c <<< n := by
  induction n generalizing c with
  | zero => exact (BitVec.shiftLeft_zero c).symm
  | succ n ih => rw [crcShifts, crcShift_zero_poly, ih, ← BitVec.shiftLeft_add, Nat.add_comm]

/-! ## `CrcStep` -/

/-- The byte 0x00 enters without a trace: only the shift steps remain. -/
theorem crcStepWith_zero_byte (poly : Word16) (n : Nat) (c : Word16) :
    crcStepWith poly n c 0 = crcShifts poly n c :=
  congrArg (crcShifts poly n) BitVec.xor_zero

/-- `CrcStep` is linear over GF(2), in accumulator and byte together (R107). -/
theorem crcStepWith_xor (poly : Word16) (n : Nat) (c1 c2 : Word16) (b1 b2 : Byte) :
    crcStepWith poly n (c1 ^^^ c2) (b1 ^^^ b2) = crcStepWith poly n c1 b1 ^^^ crcStepWith poly n c2 b2 := by
  simp only [crcStepWith, ← crcShifts_xor, BitVec.setWidth_xor, BitVec.shiftLeft_xor_distrib]
  congr 1
  ac_rfl

/-- Sixteen iterations are eight on the byte, then eight on a zero byte (R105). -/
theorem crcStepWith_sixteen (poly c : Word16) (b : Byte) :
    crcStepWith poly 16 c b = crcStepWith poly 8 (crcStepWith poly 8 c b) 0 := by
  rw [crcStepWith_zero_byte]
  exact crcShifts_add poly 8 8 _

/-- Settles O13: the model's shift steps are the iterated one, by induction on the number of iterations. -/
theorem crcStepIterates : Obligations.CrcStepIterates := by
  intro poly n c b
  rw [crcStepWith, crcShifts_eq_iterate, funext (crcShift_eq_getLsbD poly)]

/-- Settles O16: linearity of a shift step, carried through the iterations; `CrcStep(0, 0)` is its own XOR with itself,
and under polynomial 0 sixteen shifts empty the accumulator. -/
theorem crcStepAlgebra : Obligations.CrcStepAlgebra := by
  refine ⟨crcStepWith_xor, fun poly n => ?_, fun c b => ?_⟩
  · calc crcStepWith poly n 0 0
        = crcStepWith poly n 0 0 ^^^ crcStepWith poly n 0 0 := crcStepWith_xor poly n 0 0 0 0
      _ = 0 := BitVec.xor_self
  · rw [crcStepWith, crcShifts_zero_poly]
    exact BitVec.shiftLeft_eq_zero (Nat.le_refl 16)

/-! ## The CRC of a byte sequence -/

/-- The model's fold is the library's. -/
theorem crcFold_eq_foldl (par : Params) (c : Word16) (bytes : List Byte) :
    crcFold par c bytes = bytes.foldl (crcStep par) c := by
  induction bytes generalizing c with
  | nil => rfl
  | cons b bytes ih => exact ih (crcStep par c b)

/-- `CrcOf` depends on the parameters only by the polynomial and the number of iterations (R103, R104). -/
theorem crcOf_eq_foldl {par : Params} {poly : Word16} {n : Nat} (hpoly : par.crcPoly = poly)
    (hiters : par.crcIters = n) (bytes : List Byte) :
    crcOf par bytes = bytes.foldl (crcStepWith poly n) Config.crcSeed := by
  subst hpoly hiters
  exact crcFold_eq_foldl par Config.crcSeed bytes

/-- The 16-iteration CRC is the 8-iteration CRC over the bytes with a zero after each (R105). -/
theorem foldl_crcStepWith_sixteen (poly c : Word16) (bytes : List Byte) :
    bytes.foldl (crcStepWith poly 16) c =
      (bytes.flatMap fun b => [b, 0x00]).foldl (crcStepWith poly 8) c := by
  rw [List.foldl_flatMap]
  exact List.foldl_ext _ _ c fun c b _ => crcStepWith_sixteen poly c b

/-- Settles O14: a fold over `bytes ++ [b]` takes the step of `b` last. -/
theorem crcOfAppends : Obligations.CrcOfAppends := by
  intro par bytes b
  refine ⟨rfl, ?_⟩
  rw [crcOf, crcOf, crcFold_eq_foldl, crcFold_eq_foldl, List.foldl_concat]

/-- Settles O15: the step's equation folded over the bytes; the two check values by running both folds. -/
theorem crcSixteenIsTwoEights : Obligations.CrcSixteenIsTwoEights := by
  refine ⟨crcStepWith_sixteen, fun par16 par8 h16 h8 hpoly => ⟨fun bytes => ?_, fun h1021 => ⟨?_, ?_⟩⟩⟩
  · rw [crcOf_eq_foldl hpoly h16, crcOf_eq_foldl rfl h8]
    exact foldl_crcStepWith_sixteen par8.crcPoly Config.crcSeed bytes
  · rw [crcOf_eq_foldl h1021 h16]
    decide +kernel
  · rw [crcOf_eq_foldl (hpoly.symm.trans h1021) h8]
    decide +kernel

/-! ## The control words -/

/-- Settles O12: each word by its encoding, each instruction by its own update. -/
theorem crcWords : Obligations.CrcWords := by
  intro s b
  have hupdate : encode (.crcUpdate b) = [cwOp (0x02#8 ++ b), cwData (0x02#8 ++ b)] := by
    rw [cwOp_append, cwData_append]
    rfl
  exact ⟨(decodeCw_eq_ok_iff _ _).2 ⟨rfl, rfl⟩, (decodeCw_eq_ok_iff _ _).2 ⟨hupdate, rfl⟩,
    (decodeCw_eq_ok_iff _ _).2 ⟨rfl, rfl⟩, rfl, rfl, rfl, rfl, if_pos rfl, fun _ hne => if_neg hne⟩

end Sys2Proof.Machine

/-! PROOF. A completed line (41_hex_parser.md R126 to R131): its digits, the pairs of them at fixed offsets, and
which of Decode's answers it gets. -/

namespace Sys2Proof.Machine

/-! ## A stretch of a line -/

/-- The characters of a line from an offset on, as many as `n`, are hex digits where the line's are. -/
theorem digitsGood_segment {chars : List Byte} {lo m n : Nat} (h : digitsGood chars lo (lo + m)) (hm : m ≤ n) :
    digitsGood ((chars.drop lo).take n) 0 m := by
  intro j _ hj
  rw [List.getElem?_take_of_lt (by omega), List.getElem?_drop]
  exact h (lo + j) (by omega) (by omega)

/-- The first bad digit of a line, in a stretch that begins where the search does. -/
theorem firstBadDigit_segment {chars : List Byte} {lo i n : Nat} {c : Byte} (h : firstBadDigit chars lo i c)
    (hi : i < lo + n) : firstBadDigit ((chars.drop lo).take n) 0 (i - lo) c := by
  obtain ⟨hlo, hc, hbad, hgood⟩ := h
  have hidx : lo + (i - lo) = i := by omega
  refine ⟨Nat.zero_le _, ?_, hbad, digitsGood_segment (by rwa [hidx]) (by omega)⟩
  rw [List.getElem?_take_of_lt (by omega), List.getElem?_drop, hidx, hc]

/-- The byte of two digits in a stretch of a line is the line's, at the shifted offset. -/
theorem hexAt_segment {chars : List Byte} {lo i n : Nat} (hi : i + 1 < n) :
    hexAt ((chars.drop lo).take n) i = hexAt chars (lo + i) := by
  simp only [hexAt, List.getD_eq_getElem?_getD, List.getElem?_drop,
    List.getElem?_take_of_lt (Nat.lt_of_succ_lt hi), List.getElem?_take_of_lt hi, Nat.add_assoc]

/-! ## The search for a bad digit -/

/-- In a text of hex digits the search finds nothing. -/
theorem badDigitFrom_of_good {chars : List Byte} (i : Nat) (h : digitsGood chars 0 chars.length) :
    badDigitFrom i chars = none := by
  induction chars generalizing i with
  | nil => rfl
  | cons d rest ih =>
    obtain ⟨d', hd, hdigit⟩ := h 0 (Nat.le_refl 0) (Nat.succ_pos _)
    cases hd
    rw [badDigitFrom, if_pos hdigit]
    exact ih (i + 1) fun j _ hj => h (j + 1) (Nat.zero_le _) (Nat.succ_lt_succ hj)

/-- The search finds the first character that is no hex digit, with its offset. -/
theorem badDigitFrom_of_first {chars : List Byte} {k : Nat} {c : Byte} (i : Nat) (h : firstBadDigit chars 0 k c) :
    badDigitFrom i chars = some (c, i + k) := by
  obtain ⟨-, hc, hbad, hgood⟩ := h
  induction chars generalizing i k with
  | nil => simp at hc
  | cons d rest ih =>
    cases k with
    | zero =>
      cases hc
      rw [badDigitFrom, if_neg (by simp [hbad]), Nat.add_zero]
    | succ k =>
      obtain ⟨d', hd, hdigit⟩ := hgood 0 (Nat.le_refl 0) (Nat.succ_pos k)
      cases hd
      rw [badDigitFrom, if_pos hdigit, ih (i + 1) hc fun j _ hj => hgood (j + 1) (Nat.zero_le _) (Nat.succ_lt_succ hj)]
      congr 2
      omega

/-! ## Digit pairs -/

/-- The bytes of a text are the digit pairs at its even offsets (20_memory.md R57). -/
theorem hexBytes_eq_map_hexAt (chars : List Byte) :
    hexBytes chars = (List.range (chars.length / 2)).map fun i => hexAt chars (2 * i) := by
  fun_induction hexBytes chars with
  | case1 a b rest ih =>
    have hlen : (a :: b :: rest).length / 2 = rest.length / 2 + 1 := by
      simp only [List.length_cons]; omega
    rw [hlen, List.range_succ_eq_map, ih]
    simp [hexAt, Nat.mul_succ]
  | case2 chars hshort =>
    have hlen : chars.length / 2 = 0 := by
      match chars with
      | [] => rfl
      | [_] => simp
      | a :: b :: rest => exact absurd rfl (hshort a b rest)
    rw [hlen]
    rfl

/-- The bytes of a stretch of `m` digit pairs of a line. -/
theorem hexBytes_segment {chars : List Byte} {lo m : Nat} (h : lo + 2 * m ≤ chars.length) :
    hexBytes ((chars.drop lo).take (2 * m)) = (List.range m).map fun i => hexAt chars (lo + 2 * i) := by
  have hlen : ((chars.drop lo).take (2 * m)).length / 2 = m := by
    rw [List.length_take, List.length_drop]; omega
  rw [hexBytes_eq_map_hexAt, hlen]
  refine List.map_congr_left fun i hi => hexAt_segment ?_
  have := List.mem_range.1 hi
  omega

/-- The four header bytes of a line: BB, the two of AAAA, TT (41_hex_parser.md R127). -/
theorem hexBytes_header {line : List Byte} (h : 9 ≤ line.length) :
    hexBytes ((line.drop 1).take 8) = [hexAt line 1, hexAt line 3, hexAt line 5, hexAt line 7] :=
  hexBytes_segment (lo := 1) (m := 4) h

/-! ## Decode -/

/-- The record whose digits stand at the fixed offsets of a line (R127, R130). -/
def lineRecord (line : List Byte) : HexRecord where
  tt := hexAt line 7
  address := hexAt line 3 ++ hexAt line 5
  payload := (List.range (hexAt line 1).toNat).map fun i => hexAt line (9 + 2 * i)
  cc := hexAt line (9 + 2 * (hexAt line 1).toNat)

section

variable {minLen : Nat} {line : List Byte}

/-- A line that is too short (R126). -/
theorem decodeLine_of_short (h : line.length < minLen) : decodeLine minLen line = .error (.tooShort line.length) :=
  if_pos h

/-- A bad digit in the header (R127). -/
theorem decodeLine_of_bad_header {i : Nat} {c : Byte} (hlen : minLen ≤ line.length) (hi : i ≤ 8)
    (h : firstBadDigit line 1 i c) : decodeLine minLen line = .error (.badDigit c i) := by
  have ⟨hlo, _, _, _⟩ := h
  have hidx : 1 + (i - 1) = i := Nat.add_sub_cancel' hlo
  have hfind := badDigitFrom_of_first 1 (firstBadDigit_segment (n := 8) h (by omega))
  rw [hidx] at hfind
  simp only [decodeLine, if_neg (Nat.not_lt.2 hlen), hfind]

/-- A good header finds no bad digit. -/
theorem badDigitFrom_header (hlen : 9 ≤ line.length) (h : digitsGood line 1 9) :
    badDigitFrom 1 ((line.drop 1).take 8) = none := by
  refine badDigitFrom_of_good 1 ?_
  rw [List.length_take_of_le (by rw [List.length_drop]; omega)]
  exact digitsGood_segment h (Nat.le_refl 8)

/-- A length that the byte count does not ask for (R128). -/
theorem decodeLine_of_length_ne (h9 : 9 ≤ line.length) (hlen : minLen ≤ line.length) (hgood : digitsGood line 1 9)
    (hne : line.length ≠ 11 + 2 * (hexAt line 1).toNat) :
    decodeLine minLen line = .error (.lengthMismatch (hexAt line 1) line.length) := by
  simp only [decodeLine, if_neg (Nat.not_lt.2 hlen), badDigitFrom_header h9 hgood, hexBytes_header h9, if_pos hne]

/-- A bad digit behind the header (R129). -/
theorem decodeLine_of_bad_tail {i : Nat} {c : Byte} (hlen : minLen ≤ line.length) (hgood : digitsGood line 1 9)
    (heq : line.length = 11 + 2 * (hexAt line 1).toNat) (h : firstBadDigit line 9 i c) :
    decodeLine minLen line = .error (.badDigit c i) := by
  have h9 : 9 ≤ line.length := by omega
  have ⟨hlo, hc, _, _⟩ := h
  have hidx : 9 + (i - 9) = i := Nat.add_sub_cancel' hlo
  have hi : i < line.length := (List.getElem?_eq_some_iff.1 hc).1
  have hfind := badDigitFrom_of_first 9 (firstBadDigit_segment (n := (line.drop 9).length) h
    (by rw [List.length_drop]; omega))
  rw [hidx, List.take_length] at hfind
  simp only [decodeLine, if_neg (Nat.not_lt.2 hlen), badDigitFrom_header h9 hgood, hexBytes_header h9,
    if_neg (not_not_intro heq), hfind]

/-- A line without a format error (R130). -/
theorem decodeLine_of_good (hlen : minLen ≤ line.length) (hgood : digitsGood line 1 line.length)
    (heq : line.length = 11 + 2 * (hexAt line 1).toNat) : decodeLine minLen line = .ok (lineRecord line) := by
  have h9 : 9 ≤ line.length := by omega
  have htail : line.drop 9 = (line.drop 9).take (2 * ((hexAt line 1).toNat + 1)) :=
    (List.take_of_length_le (by rw [List.length_drop]; omega)).symm
  have hbytes : hexBytes (line.drop 9) =
      (List.range ((hexAt line 1).toNat + 1)).map fun i => hexAt line (9 + 2 * i) := by
    rw [htail, hexBytes_segment (by omega)]
  have hfind : badDigitFrom 9 (line.drop 9) = none := by
    refine badDigitFrom_of_good 9 ?_
    rw [List.length_drop, htail]
    exact digitsGood_segment (fun j hlo hj => hgood j (by omega) (by omega)) (by omega)
  simp only [decodeLine, if_neg (Nat.not_lt.2 hlen),
    badDigitFrom_header h9 fun j hlo hj => hgood j hlo (by omega), hexBytes_header h9, if_neg (not_not_intro heq),
    hfind, hbytes, lineRecord]
  simp [← List.map_take, List.take_range]

end

/-! ## ProcessLine -/

/-- A line with a format error (R126 to R129). -/
theorem processLine_of_error {par : Params} {u : HexUnit} {e : LineError}
    (h : decodeLine par.minLineLen u.line = .error e) : processLine par u = raiseLineError par e u := by
  simp only [processLine, h]

/-- A line that decodes (R134). -/
theorem processLine_of_ok {par : Params} {u : HexUnit} {r : HexRecord}
    (h : decodeLine par.minLineLen u.line = .ok r) : processLine par u = runRecord par r u := by
  simp only [processLine, h]

/-- The type byte alone selects the record's meaning (R131). -/
theorem runRecord_eq_ite (par : Params) (r : HexRecord) (u : HexUnit) :
    runRecord par r u =
      if r.tt = 0x00 then recordData par r.address r.payload r.cc u
      else if r.tt = 0x01 then recordEof par r.address r.payload r.cc u
      else if r.tt = 0x02 then recordExtAddr par r.address r.payload r.cc u
      else recordUnsupported par r.tt r.address r.payload r.cc u := by
  simp only [runRecord, recType]
  split_ifs <;> rfl

/-- Settles O6: Decode's checks in their order, each with the error that it raises. -/
theorem lineErrorsInOrder : Obligations.LineErrorsInOrder := by
  intro par u n bb
  refine ⟨fun hshort => ?_, fun hlen => ⟨fun i c hi hbad => ?_, fun hgood => ⟨fun hne => ?_, fun heq i c hbad => ?_⟩⟩⟩
  · exact processLine_of_error (decodeLine_of_short hshort)
  · exact processLine_of_error (decodeLine_of_bad_header hlen hi hbad)
  · exact processLine_of_error (decodeLine_of_length_ne (par.minLineLen_ge.trans hlen) hlen hgood hne)
  · exact processLine_of_error (decodeLine_of_bad_tail hlen hgood heq hbad)

/-- Settles O7: the record at the line's fixed offsets, field by field. -/
theorem decodedFields : Obligations.DecodedFields := by
  intro par u hlen hgood heq
  have hdec := decodeLine_of_good hlen hgood heq
  have hpayload : (lineRecord u.line).payload.length = (hexAt u.line 1).toNat := by simp [lineRecord]
  refine ⟨lineRecord u.line, hdec, rfl, rfl, hpayload, fun i hi => ?_, ?_, ?_⟩
  · rw [hpayload] at hi
    simp [lineRecord, hi]
  · have hcc : u.line.length - 2 = 9 + 2 * (hexAt u.line 1).toNat := by omega
    rw [hcc]
    rfl
  · rw [processLine_of_ok hdec, runRecord_eq_ite]

end Sys2Proof.Machine

/-! PROOF. A decoded record at a collected line, whatever its type (41_hex_parser.md R132 to R134): the checksum policy,
and the end of the image (R138 to R140). -/

namespace Sys2Proof.Machine

/-! ## The builder of a record -/

/-- What a decoded record's own type does, once the checksum policy has accepted it (R134). -/
def buildRecord (par : Params) (r : HexRecord) (u : HexUnit) : HexUnit :=
  match recType r.tt with
  | .data => buildData par r.address r.payload u
  | .eof => buildEof par u
  | .extAddr => buildExtAddr r.payload u
  | .unsupported tt => buildUnsupported tt u

/-- Every record goes through the one checksum policy, with the sum of its own bytes (R132, R133). -/
theorem runRecord_eq_acceptRecord (par : Params) (r : HexRecord) (u : HexUnit) :
    runRecord par r u = acceptRecord par r.tt r.address r.payload r.cc (buildRecord par r) u := by
  obtain ⟨tt, address, payload, cc⟩ := r
  unfold runRecord buildRecord recType
  split_ifs with hdata heof hext
  · subst hdata; rfl
  · subst heof; rfl
  · subst hext; rfl
  · rfl

/-- From `u` to `v` no checksum is judged: `cksum_bad` stays, and CHECKSUM_MISMATCH is not raised. -/
structure KeepsChecksum (u v : HexUnit) : Prop where
  cksumBad : v.cksumBad = u.cksumBad
  hxCode : v.hxCode = .checksumMismatch → u.hxCode = .checksumMismatch

/-- Any other error leaves the checksum's record alone. -/
theorem keepsChecksum_hexError {code : HexCode} (h : code ≠ .checksumMismatch) (val : Byte) (exp obs : Word32)
    (u : HexUnit) : KeepsChecksum u (hexError code val exp obs u) :=
  ⟨rfl, fun hcode => absurd hcode h⟩

/-- No builder judges the checksum: that is done before it runs (R133). -/
theorem buildRecord_keepsChecksum (par : Params) (r : HexRecord) (u : HexUnit) :
    KeepsChecksum u (buildRecord par r u) := by
  unfold buildRecord
  cases recType r.tt with
  | data =>
    obtain ⟨-, he⟩ | ⟨-, -, he⟩ | ⟨-, -, he⟩ := buildData_cases par r.address r.payload u
    all_goals simp only [he]
    · exact keepsChecksum_hexError (by decide) ..
    · exact keepsChecksum_hexError (by decide) ..
    · exact ⟨rfl, id⟩
  | eof =>
    obtain ⟨-, he⟩ | ⟨-, -, -, he⟩ | ⟨-, -, he⟩ := buildEof_cases par u
    all_goals simp only [he]
    · exact keepsChecksum_hexError (by decide) ..
    · exact keepsChecksum_hexError (by decide) ..
    · exact ⟨rfl, id⟩
  | extAddr =>
    obtain ⟨-, he⟩ | ⟨p0, p1, rest, -, ⟨-, he⟩ | ⟨-, he⟩⟩ := buildExtAddr_cases r.payload u
    all_goals simp only [he]
    · exact keepsChecksum_hexError (by decide) ..
    · exact keepsChecksum_hexError (by decide) ..
    · exact ⟨rfl, id⟩
  | unsupported tt => exact keepsChecksum_hexError (by decide) ..

/-! ## The instruction of a record -/

/-- A record at a collected line is U2's instruction (41_hex_parser.md R134). -/
theorem exec_recEof_of_collect {s : State} {address : Word16} {payload : List Byte} {cc : Byte}
    (h : s.u2.hxState = .collect) :
    exec (.recEof address payload cc) s = .next { s with u2 := recordEof s.par address payload cc s.u2 } :=
  congrArg Host.Outcome.next (if_pos h)

/-- A record at a collected line is U2's instruction (R134). -/
theorem exec_recUnsupported_of_collect {s : State} {tt : Byte} {address : Word16} {payload : List Byte} {cc : Byte}
    (h : s.u2.hxState = .collect) :
    exec (.recUnsupported tt address payload cc) s =
      .next { s with u2 := recordUnsupported s.par tt address payload cc s.u2 } :=
  congrArg Host.Outcome.next (if_pos h)

/-- The instruction of a decoded record does to U2 what ProcessLine does with the record (R134). -/
theorem exec_recordInstr_of_collect {s : State} (h : s.u2.hxState = .collect) (r : HexRecord) :
    exec (recordInstr r) s = .next { s with u2 := runRecord s.par r s.u2 } := by
  unfold recordInstr runRecord
  cases recType r.tt with
  | data => exact exec_recData_of_collect h
  | eof => exact exec_recEof_of_collect h
  | extAddr => exact exec_recExtAddr_of_collect h
  | unsupported tt => exact exec_recUnsupported_of_collect h

/-! ## The checksum -/

/-- The sum of bytes in a row. -/
theorem byteSum_append (xs ys : List Byte) : byteSum (xs ++ ys) = byteSum xs + byteSum ys := by
  induction xs with
  | nil => exact (BitVec.zero_add _).symm
  | cons b rest ih => rw [List.cons_append, byteSum, byteSum, ih, BitVec.add_assoc]

/-- The checksum is one summand of a record's sum (30_encoding.md R80). -/
theorem recordSum_eq_add (tt : Byte) (address : Word16) (payload : List Byte) (cc : Byte) :
    recordSum tt address payload cc = recordSum tt address payload 0 + cc := by
  simp [recordSum, recordBytes, be16, byteSum, byteSum_append, BitVec.add_assoc]

/-- The expected checksum of a record makes its sum 0 (R133). -/
theorem recordSum_expected (tt : Byte) (address : Word16) (payload : List Byte) (cc : Byte) :
    recordSum tt address payload (cc - recordSum tt address payload cc) = 0 := by
  rw [recordSum_eq_add, recordSum_eq_add tt address payload cc]
  generalize recordSum tt address payload 0 = rest
  bv_omega

/-- A bad checksum in strict mode (R133, R237). -/
theorem acceptRecord_of_strict {par : Params} {tt : Byte} {address : Word16} {payload : List Byte} {cc : Byte}
    {build : HexUnit → HexUnit} {u : HexUnit} (hsum : recordSum tt address payload cc ≠ 0)
    (hstrict : par.strictChecksum = true) :
    acceptRecord par tt address payload cc build u =
      hexError .checksumMismatch cc ((cc - recordSum tt address payload cc).setWidth 32) (cc.setWidth 32) u :=
  if_pos ⟨hsum, hstrict⟩

/-- Settles O25: the policy is the same for every type, and no builder judges the checksum again. -/
theorem checksumPolicy : Obligations.ChecksumPolicy := by
  intro s r hcollect sum hsum
  have hexec : exec (recordInstr r) s =
      .next { s with u2 := acceptRecord s.par r.tt r.address r.payload r.cc (buildRecord s.par r) s.u2 } := by
    rw [exec_recordInstr_of_collect hcollect, runRecord_eq_acceptRecord]
  refine ⟨recordSum_expected .., fun hstrict => ?_, fun hlax => ⟨_, hexec, ?_⟩⟩
  · rw [hexec, acceptRecord_of_strict hsum hstrict]
  · rw [acceptRecord_of_accepted (.inr hlax)]
    obtain ⟨hbad, hcode⟩ := buildRecord_keepsChecksum s.par r (afterDecode sum s.u2)
    refine ⟨?_, fun h => hcode (by simpa using h)⟩
    rw [backToSeek_cksumBad, hbad, afterDecode_cksumBad, if_neg hsum]

/-! ## The end of the image -/

/-- Settles O23: the builder's cases for an image of as many cells as the cursor says. -/
theorem eofRecordFinishesImage : Obligations.EofRecordFinishesImage := by
  intro s address payload cc hcollect hsum htotal u
  have hrecord : exec (.recEof address payload cc) s = .next { s with u2 := backToSeek (buildEof s.par u) } := by
    rw [exec_recEof_of_collect hcollect, recordEof, acceptRecord_of_accepted hsum]
    rfl
  have hexclude : u.cursor = 0 → s.par.allowEmptyImage = false →
      ¬ (u.cursor ≠ 0 ∨ s.par.allowEmptyImage = true) := by
    rintro hzero hempty (hcursor | hallow)
    · exact hcursor hzero
    · simp [hempty] at hallow
  rw [hrecord]
  obtain ⟨hne, -⟩ | ⟨-, hzero, hempty, he⟩ | ⟨-, hfinal, he⟩ := buildEof_cases s.par u
  · exact absurd htotal hne
  · rw [he, backToSeek_of_ne (by simp)]
    exact ⟨fun _ _ => rfl, fun hfinal => absurd hfinal (hexclude hzero hempty)⟩
  · rw [he, backToSeek_of_ne (by simp)]
    exact ⟨fun hzero hempty => absurd hfinal (hexclude hzero hempty), fun _ => ⟨rfl, rfl⟩⟩

end Sys2Proof.Machine

/-! PROOF. The text as the HOST issues it, character by character (41_hex_parser.md R120 to R124): what HEX.CHAR and
HEX.END do in each state of U2, and which steps run a record (R122, R134). -/

namespace Sys2Proof.Machine

/-! ## HEX.CHAR and HEX.END by U2's state -/

section

variable {par : Params} {c : Byte} {u : HexUnit}

/-- In SEEK a character is the start of a line, the end of one, or nothing (R120). -/
theorem hexCharUnit_of_seek (h : u.hxState = .seek) : hexCharUnit par c u = seekChar c u := by
  simp only [hexCharUnit, h]

/-- In COLLECT a character ends the line or is stored (R121, R122). -/
theorem hexCharUnit_of_collect (h : u.hxState = .collect) : hexCharUnit par c u = collectChar par c u := by
  simp only [hexCharUnit, h]

/-- After an error no character is taken (R123). -/
theorem hexCharUnit_of_error (h : u.hxState = .error) : hexCharUnit par c u = u := by
  simp only [hexCharUnit, h]

/-- In SEEK no record ended the parse (R124). -/
theorem hexEndUnit_of_seek (h : u.hxState = .seek) : hexEndUnit par u = missingEof u := by
  simp only [hexEndUnit, h]

/-- After an error the end of the text changes nothing (R123). -/
theorem hexEndUnit_of_error (h : u.hxState = .error) : hexEndUnit par u = u := by
  simp only [hexEndUnit, h]

/-- CR completes the line (R122). -/
theorem collectChar_cr (par : Params) (u : HexUnit) : collectChar par 0x0D u = processLine par u :=
  if_pos rfl

/-- LF completes the line and counts it, unless it raised an error (R122, 60_exceptions.md R260; log 24). -/
theorem collectChar_lf (par : Params) (u : HexUnit) :
    collectChar par 0x0A u =
      if (processLine par u).hxState = .error then processLine par u
      else { processLine par u with lineNo := bump (processLine par u).lineNo } :=
  (if_neg (by decide)).trans (if_pos rfl)

/-- Any other character is stored where there is room (R121, 60_exceptions.md R236). -/
theorem collectChar_other (hcr : c ≠ 0x0D) (hlf : c ≠ 0x0A) :
    collectChar par c u =
      if par.lineMax ≤ u.line.length then
        hexError .lineTooLong c (toU32 par.lineMax) (toU32 (par.lineMax + 1)) u
      else { u with line := u.line ++ [c] } :=
  (if_neg hcr).trans (if_neg hlf)

/-- The end of the text decides the parse (R124). -/
theorem hexEndUnit_final (par : Params) (u : HexUnit) :
    (hexEndUnit par u).hxState = .done ∨ (hexEndUnit par u).hxState = .error := by
  cases hstate : u.hxState with
  | seek => rw [hexEndUnit_of_seek hstate]; exact .inr rfl
  | collect =>
    obtain ⟨hfinal, he⟩ | ⟨-, -, he⟩ := hexEndUnit_collect par u hstate
    · rw [he]; exact hfinal
    · rw [he]; exact .inr rfl
  | done => rw [hexEndUnit_of_done hstate]; exact .inl hstate
  | error => rw [hexEndUnit_of_error hstate]; exact .inr hstate

end

/-! ## The instructions -/

/-- HEX.CHAR changes U2 only. -/
theorem exec_hexChar (c : Byte) (s : State) :
    exec (.hexChar c) s = .next { s with u2 := hexCharUnit s.par c s.u2 } :=
  rfl

/-- HEX.END changes U2 only. -/
theorem exec_hexEnd (s : State) : exec .hexEnd s = .next { s with u2 := hexEndUnit s.par s.u2 } :=
  rfl

/-- A counter that has room counts one up. -/
theorem bump_eq_add_one {x : Word32} (h : x.toNat + 1 < 2 ^ 32) : bump x = x + 1 := by
  apply BitVec.eq_of_toNat_eq
  rw [bump_toNat x h, BitVec.toNat_add]
  exact (Nat.mod_eq_of_lt h).symm

/-- Settles O17: U2's character input where it completes no line, and the counter's arithmetic. -/
theorem hexCharStores : Obligations.HexCharStores := by
  refine ⟨fun x => bump_eq_add_one, fun s c => ⟨fun hseek => ?_, fun hcollect hcr hlf => ?_⟩⟩
  · rw [exec_hexChar, hexCharUnit_of_seek hseek, seekChar]
    split_ifs <;> rfl
  · rw [exec_hexChar, hexCharUnit_of_collect hcollect, collectChar_other hcr hlf]
    split_ifs <;> rfl

/-- Settles O18: CR and LF in COLLECT. -/
theorem hexCharEndsLine : Obligations.HexCharEndsLine := by
  intro s hcollect u
  rw [exec_hexChar, exec_hexChar, hexCharUnit_of_collect hcollect, hexCharUnit_of_collect hcollect, collectChar_cr,
    collectChar_lf]
  exact ⟨rfl, rfl⟩

/-- Settles O19: U2 as a whole is as it was. -/
theorem hexFinalStatesIgnoreInput : Obligations.HexFinalStatesIgnoreInput := by
  intro s c hfinal
  rw [exec_hexChar, exec_hexEnd]
  obtain hdone | herror := hfinal
  · rw [hexCharUnit_of_done hdone, hexEndUnit_of_done hdone]
    exact ⟨rfl, rfl⟩
  · rw [hexCharUnit_of_error herror, hexEndUnit_of_error herror]
    exact ⟨rfl, rfl⟩

/-- Settles O20: HEX.END by U2's state. -/
theorem hexEndDecides : Obligations.HexEndDecides := by
  intro s
  refine ⟨fun hseek => ?_, fun hcollect => ?_, ⟨_, exec_hexEnd s, hexEndUnit_final s.par s.u2⟩⟩
  · rw [exec_hexEnd, hexEndUnit_of_seek hseek]
    rfl
  · intro u
    rw [exec_hexEnd]
    obtain ⟨hfinal, he⟩ | ⟨hdone, herror, he⟩ := hexEndUnit_collect s.par s.u2 hcollect
    · rw [he, if_pos hfinal]
    · rw [he, if_neg (not_or_intro hdone herror)]
      rfl

/-! ## Steps -/

/-- Settles O10: the terminator's word is HEX.CHAR, which completes the line, and the line's record is its
instruction. -/
theorem stepRunsRecord : Obligations.StepRunsRecord := by
  intro s rest r hcollect hdec
  have hrecord := exec_recordInstr_of_collect (s := withEvents rest s) hcollect r
  have hline : processLine s.par s.u2 = runRecord s.par r s.u2 := processLine_of_ok hdec
  obtain ⟨hcr, hlf⟩ := hexCharEndsLine (withEvents rest s) hcollect
  simp only [withEvents_par, withEvents_u2, hline] at hcr hlf hrecord
  refine ⟨fun hev => ?_, fun hev => ⟨_, hrecord, ?_⟩⟩
  · rw [stepRunsControlWord s 0x100D rest (.hexChar 0x0D) hev rfl, hrecord]
    exact hcr
  · rw [stepRunsControlWord s 0x100A rest (.hexChar 0x0A) hev rfl]
    refine hlf.trans ?_
    split_ifs <;> rfl

end Sys2Proof.Machine

/-! PROOF. The two absorbing states (41_hex_parser.md R144; 60_exceptions.md R261). -/

namespace Sys2Proof.Machine

/-- After an error of U2 a control word leaves U2 as it was (R144). -/
theorem WordMove.u2_of_error {w : Word16} {s t : State} (h : WordMove w s t) (herror : s.u2.hxState = .error) :
    t.u2 = s.u2 := by
  cases h with
  | hexChar => exact hexCharUnit_of_error herror
  | hexEnd => exact hexEndUnit_of_error herror
  | sesStart _ hstart => exact (execSesStart_frame hstart).2.1
  | _ => rfl

/-- U3 has a move of its own only while it has not failed: it is IDLE, running, or at a step of a stage (R261). -/
theorem SesMove.eq_or_running {s t : State} (h : SesMove s t) : t = s ∨ s.u3.sesState ≠ .failed := by
  cases h with
  | stayed => exact .inl rfl
  | started hidle _ => exact .inr (by simp [hidle])
  | failed _ hfrom => exact .inr hfrom.running
  | _ => exact .inr (running_of_atStep (by assumption))

/-- After a failure U3 stays as it was (R261). -/
theorem SesMove.u3_of_failed {s t : State} (h : SesMove s t) (hfailed : s.u3.sesState = .failed) : t.u3 = s.u3 := by
  obtain rfl | hrunning := h.eq_or_running
  · rfl
  · exact absurd hfailed hrunning

/-- Settles O47: by the moves that a step other than RST can be. -/
theorem failuresAbsorb : Obligations.FailuresAbsorb := by
  intro s t hno h
  obtain ⟨k, rest, -, rfl⟩ | ⟨w, rest, -, hword⟩ | ⟨rest, -, hses⟩ := step_cases_of_noReset hno h
  · exact ⟨fun _ => rfl, fun _ => rfl⟩
  · refine ⟨fun hfailed => ?_, hword.u2_of_error⟩
    obtain hu3 | hses := hword.u3_cases
    · exact hu3
    · exact hses.u3_of_failed hfailed
  · exact ⟨hses.u3_of_failed, fun _ => hses.frame.2.1⟩

end Sys2Proof.Machine

/-! PROOF. The TX history of a session (42_session.md R162; 43_block_transfer.md R208, R209, R211): what R211's list
takes from the state, and that every move of U3 extends the list by the message it sends. -/

namespace Sys2Proof.Machine

/-! ## What the list takes from the state -/

/-- `t` has all that the messages before the first block take from `s`. -/
structure SameHeading (s t : State) : Prop where
  par : t.par = s.par
  u2 : t.u2 = s.u2
  sig : t.u3.sig = s.u3.sig
  kind : t.u3.kind = s.u3.kind

/-- `t` has all that R211's list takes from `s`. -/
structure SameMessages (s t : State) : Prop where
  par : t.par = s.par
  u2 : t.u2 = s.u2
  sig : t.u3.sig = s.u3.sig
  kind : t.u3.kind = s.u3.kind
  blockSize : t.u3.blockSize = s.u3.blockSize
  blk : t.u3.blk = s.u3.blk
  nblocks : t.u3.nblocks = s.u3.nblocks

/-- What R211's list takes from the state includes what its messages before the first block take. -/
theorem SameMessages.heading {s t : State} (h : SameMessages s t) : SameHeading s t :=
  ⟨h.par, h.u2, h.sig, h.kind⟩

/-- The erase-size declaration depends on the image alone (42_session.md R175). -/
theorem SameHeading.eraseSizeBytes_eq {s t : State} (h : SameHeading s t) : eraseSizeBytes t = eraseSizeBytes s := by
  simp only [eraseSizeBytes, totalBytes, h.u2]

/-- The messages up to the block size depend on the signature alone (R172). -/
theorem SameHeading.txConfigured_eq {s t : State} (h : SameHeading s t) (p : Nat) :
    txConfigured t p = txConfigured s p := by
  simp only [txConfigured, h.sig]

/-- The messages up to the erase decision (R174, R175). -/
theorem SameHeading.txErasable_eq {s t : State} (h : SameHeading s t) (p : Nat) : txErasable t p = txErasable s p := by
  simp only [txErasable, h.txConfigured_eq, h.eraseSizeBytes_eq, kindNeedsErase_of_eq h.par h.kind]

/-- The messages up to the address (43_block_transfer.md R200). -/
theorem SameHeading.txAddressed_eq {s t : State} (h : SameHeading s t) (p : Nat) :
    txAddressed t p = txAddressed s p := by
  simp only [txAddressed, h.txErasable_eq]

/-- A chunk depends on the parameters, the image and the block size (R202). -/
theorem chunkOf_of_eq {s t : State} (hpar : t.par = s.par) (hu2 : t.u2 = s.u2)
    (hsize : t.u3.blockSize = s.u3.blockSize) (k : Nat) : chunkOf t k = chunkOf s k := by
  have hbyte : imageByte t = imageByte s := by
    unfold imageByte totalBytes
    rw [hpar, hu2]
  simp only [chunkOf, hbyte, hsize]

/-- So do the messages of the blocks (R203 to R206). -/
theorem blockMessages_of_eq {s t : State} (hpar : t.par = s.par) (hu2 : t.u2 = s.u2)
    (hsize : t.u3.blockSize = s.u3.blockSize) (n : Nat) : blockMessages t n = blockMessages s n := by
  have hmessage : blockMessage t = blockMessage s := by
    funext k
    simp only [blockMessage, headerBytes, chunkOf_of_eq hpar hu2 hsize, hpar, hsize]
  simp only [blockMessages, hmessage]

/-- The list at every step depends on nothing else. -/
theorem SameMessages.txAtStep_eq {s t : State} (h : SameMessages s t) (p : Nat) (a : SesStep) :
    txAtStep t p a = txAtStep s p a := by
  have hblocks := blockMessages_of_eq h.par h.u2 h.blockSize
  cases a with
  | setdevWait | verSend | verWait | bsizeSend => simp only [txAtStep, h.sig]
  | bsizeWait | xsizeSend | xsizeWait => simp only [txAtStep, h.heading.txConfigured_eq, h.heading.eraseSizeBytes_eq]
  | eraseSend | eraseWait | addrSend => simp only [txAtStep, h.heading.txErasable_eq]
  | addrWait => simp only [txAtStep, h.heading.txAddressed_eq]
  | blkHdr | blkWait => simp only [txAtStep, h.heading.txAddressed_eq, hblocks, h.blk]
  | blkData | blkCrc =>
    simp only [txAtStep, h.heading.txAddressed_eq, hblocks, h.blk, headerBytes, h.blockSize,
      chunkOf_of_eq h.par h.u2 h.blockSize]
  | exitSend | stepEnd => simp only [txAtStep, h.heading.txAddressed_eq, hblocks, h.nblocks]
  | _ => rfl

/-! ## One more message -/

/-- One more ping (42_session.md R166). -/
theorem txDiscovered_succ (p : Nat) :
    txDiscovered (p + 1) = txDiscovered p ++ [if p % 2 = 0 then 0x1B else 0xAA] := by
  simp only [txDiscovered, pings, List.append_assoc]

/-- One more block (43_block_transfer.md R207). -/
theorem blockMessages_succ (s : State) (n : Nat) :
    blockMessages s (n + 1) = blockMessages s n ++ blockMessage s n := by
  simp [blockMessages, List.range_succ]

/-- The message that U3 has enabled is that of its step. -/
theorem u3ActionAt_of_send {s : State} {a : SesStep} {i : Instr} (hat : atStep a s)
    (hsend : u3Fetch s = .ok (.send i)) : u3ActionAt s a = .ok (.send i) :=
  (u3Fetch_of_atStep hat).symm.trans hsend

/-- A message that no wait follows extends the list of its step to that of the next, a ping by one more ping. -/
theorem SendsOn.txAtStep_eq {s : State} {a b : SesStep} {i : Instr} {p : Nat} (hab : SendsOn a b) (hat : atStep a s)
    (hsend : u3Fetch s = .ok (.send i)) (himage : imageInv s) (hfit : pingsFit p a) :
    ∃ q, pingsFit q b ∧ txAtStep s q b = txAtStep s p a ++ encode i := by
  have hact := u3ActionAt_of_send hat hsend
  cases hab with
  | resetFrame | header | exit =>
    cases hact
    exact ⟨p, hfit, rfl⟩
  | ping1 =>
    cases hact
    have heven : p % 2 = 0 := hfit
    refine ⟨p + 1, ?_, ?_⟩
    · show (p + 1) % 2 = 1
      omega
    · simp only [txAtStep, txDiscovered_succ, if_pos heven, encode]
  | ping2 =>
    cases hact
    have hodd : p % 2 = 1 := hfit
    refine ⟨p + 1, ?_, ?_⟩
    · show (p + 1) % 2 = 0 ∧ 2 ≤ p + 1
      omega
    · simp only [txAtStep, txDiscovered_succ, hodd, encode]
      rfl
  | data =>
    simp only [u3ActionAt, chunk_ok s himage] at hact
    cases hact
    exact ⟨p, hfit, rfl⟩

/-- A message that starts a wait extends the list of its step to that of the wait. -/
theorem SendsAndWaits.txAtStep_eq {s : State} {a b : SesStep} {i : Instr} (hab : SendsAndWaits a b)
    (hat : atStep a s) (hsend : u3Fetch s = .ok (.send i)) (p : Nat) :
    txAtStep s p b = txAtStep s p a ++ encode i := by
  have hact := u3ActionAt_of_send hat hsend
  cases hab with
  | sig | setdev | ver | bsize | xsize | erase | addr =>
    cases hact
    rfl

/-- The CRC completes the message of the block (43_block_transfer.md R206). -/
theorem txAtStep_blkWait {s : State} {i : Instr} (hat : atStep .blkCrc s) (hsend : u3Fetch s = .ok (.send i))
    (himage : imageInv s) (p : Nat) : txAtStep s p .blkWait = txAtStep s p .blkCrc ++ encode i := by
  have hact := u3ActionAt_of_send hat hsend
  simp only [u3ActionAt, chunk_ok s himage] at hact
  cases hact
  simp only [txAtStep, blockMessages_succ, blockMessage, encode, List.append_assoc]

/-- A reply that changes no session data leaves the list as it is; `'X'` was for a kind that needs it (42_session.md
R175). -/
theorem Acknowledges.txAtStep_eq {s : State} {a b : SesStep} (hab : Acknowledges a b) (hat : atStep a s)
    (hkind : eraseKindInv s) (p : Nat) : txAtStep s p b = txAtStep s p a := by
  cases hab with
  | xsize =>
    have hneeds : kindNeedsErase s = true := hkind (.inr hat.2) hat.1
    simp only [txAtStep, txErasable, if_pos hneeds]
  | setdev | ver | erase => rfl

/-- Before the first block the list is that of the address (43_block_transfer.md R200). -/
theorem txAtStep_blkHdr_of_addressed {s t : State} (h : SameHeading s t) (hblk : t.u3.blk = 0) (p : Nat) :
    txAtStep t p .blkHdr = txAtStep s p .addrWait := by
  simp [txAtStep, h.txAddressed_eq, hblk, blockMessages]

/-- Without a block to send the list is that of the address to the end (R201). -/
theorem txAtStep_exitSend_of_addressed {s t : State} (h : SameHeading s t) (hzero : t.u3.nblocks.toNat = 0) (p : Nat) :
    txAtStep t p .exitSend = txAtStep s p .addrWait := by
  simp [txAtStep, h.txAddressed_eq, hzero, blockMessages]

/-- The next block follows the one just acknowledged (R207). -/
theorem txAtStep_blkHdr_of_acknowledged {s t : State} (h : SameHeading s t) (hsize : t.u3.blockSize = s.u3.blockSize)
    (hblk : t.u3.blk.toNat = s.u3.blk.toNat + 1) (p : Nat) : txAtStep t p .blkHdr = txAtStep s p .blkWait := by
  simp only [txAtStep, h.txAddressed_eq, blockMessages_of_eq h.par h.u2 hsize, hblk]

/-- The block just acknowledged was the last one (R207, R209). -/
theorem txAtStep_exitSend_of_acknowledged {s t : State} (h : SameHeading s t)
    (hsize : t.u3.blockSize = s.u3.blockSize) (hn : t.u3.nblocks.toNat = s.u3.blk.toNat + 1) (p : Nat) :
    txAtStep t p .exitSend = txAtStep s p .blkWait := by
  simp only [txAtStep, h.txAddressed_eq, blockMessages_of_eq h.par h.u2 hsize, hn]

/-! ## The moves -/

/-- A move from step `a` that hands `m` to the link keeps the history, where `m` is what the list of the next step has
beyond that of `a`. -/
theorem txInv_of_sent {s t : State} {a : SesStep} {m : List Byte} (htx : txInv s) (hat : atStep a s)
    (hm : t.u3.tx = s.u3.tx ++ m)
    (hnext : ∀ p, pingsFit p a →
      ∃ q, pingsFit q t.u3.sesStep ∧ txAtStep t q t.u3.sesStep = txAtStep s p a ++ m) : txInv t := by
  intro _
  obtain ⟨p, hfit, hlist⟩ := htx (running_of_atStep hat)
  rw [hat.2] at hfit hlist
  obtain ⟨q, hq, hnext⟩ := hnext p hfit
  exact ⟨q, hq, by rw [hm, hlist, hnext]⟩

/-- A move that sends nothing keeps the history, where the list of the next step is that of `a`. -/
theorem txInv_of_silent {s t : State} {a : SesStep} (htx : txInv s) (hat : atStep a s) (hm : t.u3.tx = s.u3.tx)
    (hnext : ∀ p, pingsFit p a → pingsFit p t.u3.sesStep ∧ txAtStep t p t.u3.sesStep = txAtStep s p a) :
    txInv t :=
  txInv_of_sent (m := []) htx hat (by simpa using hm) fun p hfit => ⟨p, by simpa using hnext p hfit⟩

/-- The same for a move that keeps what the list takes from the state. -/
theorem txInv_of_same {s t : State} {a : SesStep} {m : List Byte} (htx : txInv s) (hat : atStep a s)
    (hsame : SameMessages s t) (hm : t.u3.tx = s.u3.tx ++ m)
    (hnext : ∀ p, pingsFit p a →
      ∃ q, pingsFit q t.u3.sesStep ∧ txAtStep s q t.u3.sesStep = txAtStep s p a ++ m) : txInv t :=
  txInv_of_sent htx hat hm (by simpa only [hsame.txAtStep_eq] using hnext)

/-- U3 stands at NONE in IDLE. -/
theorem sesStep_of_idle {s : State} (hs : stageInv s) (hidle : s.u3.sesState = .idle) : s.u3.sesStep = .stepNone := by
  simpa [stageInv, hidle, eq_comm (a := SesState.idle), stepStage_eq_idle_iff] using hs

/-- The wait of a block is one of its steps. -/
theorem inBlock_of_blkWait {s : State} (hat : atStep .blkWait s) : inBlock s :=
  ⟨hat.1, .inr (.inr (.inr hat.2))⟩

/-- Every move of U3 keeps the history. -/
theorem txInv_move {s t : State} (h : SesMove s t) (hs : sessionInv s) (himage : imageInv s) (htx : txInv s) :
    txInv t := by
  have hcomplete := (blockInv_move h hs.block).2
  cases h with
  | stayed => exact htx
  | failed => exact fun hrun => absurd rfl hrun
  | started hidle _ =>
    intro _
    obtain ⟨p, hfit, hlist⟩ := htx (by simp [hidle])
    rw [sesStep_of_idle hs.stage hidle] at hfit hlist
    exact ⟨p, hfit, hlist⟩
  | settled hat _ =>
    refine txInv_of_silent htx hat (by simp) fun p hfit => ?_
    obtain rfl : p = 0 := hfit
    exact ⟨rfl, rfl⟩
  | gap hab hat _ =>
    refine txInv_of_silent htx hat (by simp) fun p hfit => ?_
    cases hab <;> exact ⟨hfit, rfl⟩
  | scannedOn hab hat _ =>
    refine txInv_of_silent htx hat (by simp) fun p hfit => ?_
    cases hab with
    | first => exact ⟨hfit, rfl⟩
    | second => exact ⟨hfit.1, rfl⟩
  | identified hab hat =>
    refine txInv_of_silent htx hat (by simp) fun p hfit => ?_
    cases hab with
    | first =>
      have hodd : p % 2 = 1 := hfit
      exact ⟨show 1 ≤ p by omega, rfl⟩
    | second => exact ⟨Nat.le_of_succ_le hfit.2, rfl⟩
  | polled hat _ _ | waitsOn hat _ _ =>
    refine txInv_of_same (m := []) htx hat (by constructor <;> simp) (by simp) fun p hfit => ⟨p, ?_⟩
    simpa [hat.2] using hfit
  | sentOn hab hat hsend =>
    exact txInv_of_same htx hat (by constructor <;> simp) (by simp) fun p hfit =>
      hab.txAtStep_eq hat hsend himage hfit
  | sentAndWaits hab hat hsend =>
    refine txInv_of_same htx hat (by constructor <;> simp) (by simp) fun p hfit =>
      ⟨p, ?_, hab.txAtStep_eq hat hsend p⟩
    cases hab <;> exact hfit
  | sentCrc hat hsend _ =>
    exact txInv_of_same htx hat (by constructor <;> simp) (by simp) fun p hfit =>
      ⟨p, hfit, txAtStep_blkWait hat hsend himage p⟩
  | acknowledged hab hat =>
    refine txInv_of_same (m := []) htx hat (by constructor <;> simp) (by simp) fun p hfit => ⟨p, ?_, ?_⟩
    · cases hab <;> exact hfit
    · simpa using hab.txAtStep_eq hat hs.eraseKind p
  | signed hat _ _ => exact txInv_of_silent htx hat (by simp) fun p hfit => ⟨hfit, rfl⟩
  | @sized r bs k hat _ hkind =>
    have hhead : SameHeading s { withRx r s with u3 := { (withRx r s).u3 with blockSize := bs } } := by
      constructor <;> simp
    refine txInv_of_silent htx hat (by simp) fun p hfit => ?_
    by_cases hneeds : needsEraseSize s.par k = true
    · simp only [if_pos hneeds]
      exact ⟨hfit, hhead.txConfigured_eq p⟩
    · simp only [if_neg hneeds]
      refine ⟨hfit, (hhead.txErasable_eq p).trans ?_⟩
      simp [txErasable, kindNeedsErase, hkind, hneeds, txAtStep]
  | addressed hat _ _ =>
    exact txInv_of_silent htx hat (by simp) fun p hfit =>
      ⟨hfit, txAtStep_blkHdr_of_addressed (by constructor <;> simp) rfl p⟩
  | addressedEmpty hat _ _ =>
    have hzero : (toU32 0).toNat = 0 := toU32_toNat 0 (by decide)
    exact txInv_of_silent htx hat (by simp) fun p hfit =>
      ⟨hfit, txAtStep_exitSend_of_addressed (by constructor <;> simp) hzero p⟩
  | nextBlock hat _ =>
    have hblk := bump_toNat_of_lt (hs.block.1 (inBlock_of_blkWait hat)).1
    exact txInv_of_silent htx hat (by simp) fun p hfit =>
      ⟨hfit, txAtStep_blkHdr_of_acknowledged (by constructor <;> simp) (by simp) hblk p⟩
  | lastBlock hat _ =>
    have hblk := bump_toNat_of_lt (hs.block.1 (inBlock_of_blkWait hat)).1
    obtain ⟨hlast, -⟩ := hcomplete rfl
    exact txInv_of_silent htx hat (by simp) fun p hfit =>
      ⟨hfit, txAtStep_exitSend_of_acknowledged (by constructor <;> simp) (by simp) (hlast ▸ hblk) p⟩

/-! ## Every step -/

/-- After RST nothing has been sent. -/
theorem txInv_applyReset (s : State) : txInv (applyReset s) := fun _ => ⟨0, rfl, rfl⟩

/-- The history does not depend on more than the parameters, U3 and, once it is final, the image. -/
theorem txInv_of_eq {s t : State} (hpar : t.par = s.par) (hu3 : t.u3 = s.u3)
    (hdone : s.u2.hxState = .done → t.u2 = s.u2) (hs : sessionInv s) (htx : txInv s) : txInv t := by
  intro hrun
  rw [hu3] at hrun ⊢
  obtain ⟨p, hfit, hlist⟩ := htx hrun
  refine ⟨p, hfit, hlist.trans ?_⟩
  by_cases hidle : s.u3.sesState = .idle
  · rw [sesStep_of_idle hs.stage hidle]
    rfl
  · have hu2 : t.u2 = s.u2 := hdone (hs.imageReady ⟨hidle, hrun⟩)
    have hsame : SameMessages s t := by constructor <;> simp only [hpar, hu2, hu3]
    exact (hsame.txAtStep_eq p _).symm

/-- Settles O54: every move of U3 extends the list by what it sends, and no other move writes what the list is made
of. -/
theorem txHistoryKept : Obligations.TxHistoryKept := by
  intro s t hs himage htx h
  have hs' : ∀ rest, sessionInv (withEvents rest s) := fun _ => sessionInv_of_eq (s := s) rfl rfl (fun _ => rfl) hs
  obtain ⟨rest, -, rfl⟩ | ⟨k, rest, -, rfl⟩ | ⟨w, rest, -, hword⟩ | ⟨rest, -, hses⟩ := step_cases h
  · exact txInv_applyReset _
  · exact htx
  · obtain hu3 | hses := hword.u3_cases
    · exact txInv_of_eq hword.par_eq hu3 hword.u2_of_done (hs' rest) htx
    · exact txInv_move hses (hs' rest) himage htx
  · exact txInv_move hses (hs' rest) himage htx

end Sys2Proof.Machine

/-! PROOF. SES.START, the message of each send step, and the effect of each accepted reply (42_session.md R160 to
R176). -/

namespace Sys2Proof.Machine

/-! ## SES.START -/

/-- A control word of the operation SES.START with nonzero data is reserved (30_encoding.md R72). -/
theorem decodeCw_of_sesStart_data {w : Word16} (hop : cwOp w = 0x20) (hw : w ≠ 0x2000) :
    decodeCw w = .error (.reservedData 0x20 (cwData w)) := by
  have hdata : cwData w ≠ 0 := fun hzero => hw (by rw [← cwOp_append_cwData w, hop, hzero]; rfl)
  have hplain : cwPlain 0x20 (cwData w) .sesStart = .error (.reservedData 0x20 (cwData w)) := if_neg hdata
  simpa [decodeCw, hop] using hplain

/-- The only control word that writes U3 is 0x2000 (42_session.md R160). -/
theorem wordStep_u3 {w : Word16} {s t : State} (hw : w ≠ 0x2000) (h : wordStep w s = .next t) : t.u3 = s.u3 := by
  obtain hu3 | hop := (wordStep_move h).u3
  · exact hu3
  · simp only [wordStep, decodeCw_of_sesStart_data hop hw] at h
    cases h
    rfl

/-- U3 has no action in IDLE (R161). -/
theorem u3Fetch_of_idle {s : State} (hidle : s.u3.sesState = .idle) : u3Fetch s = .ok .idle := by
  unfold u3Fetch
  split
  · rename_i hstage
    rw [(stepStage_eq_idle_iff _).1 (hstage.symm.trans hidle)]
    rfl
  · rfl

/-- From IDLE only SES.START and RST write U3 (R160). -/
theorem step_u3_of_idle {s t : State} (hidle : s.u3.sesState = .idle) (h : step s = .next t)
    (hword : ∀ rest, s.env.events ≠ .word 0x2000 :: rest) (hno : noReset s) : t.u3 = s.u3 := by
  have hturn : ∀ rest, u3Next s rest → t.u3 = s.u3 := by
    intro rest hnext
    simp only [step_of_u3Next hnext, u3Turn, u3Fetch_withEvents, u3Fetch_of_idle hidle] at h
    cases h
    rfl
  cases hev : s.env.events with
  | nil => exact hturn [] (.inr ⟨hev, rfl⟩)
  | cons e rest =>
    cases e with
    | word w =>
      rw [step_of_word hev] at h
      exact wordStep_u3 (s := withEvents rest s) (fun hw => hword rest (hw ▸ hev)) h
    | rst => exact absurd hev (hno rest)
    | expect k =>
      rw [step_of_expect hev] at h
      cases h
      rfl
    | u3 => exact hturn rest (.inl hev)

/-- Settles O27: START asks for IDLE and DONE, and from IDLE nothing else writes U3. -/
theorem sesStartCases : Obligations.SesStartCases := by
  intro s
  refine ⟨fun hidle hdone => ?_, fun hidle hdone => ?_, fun hidle => ?_, fun t hidle h hword => ?_⟩
  · simp only [exec, execSesStart, if_pos hidle, if_pos hdone]
    rfl
  · simp only [exec, execSesStart, if_pos hidle, if_neg hdone]
  · simp only [exec, execSesStart, if_neg hidle]
  · have hkeep := step_u3_of_idle hidle h hword
    refine ⟨?_, hkeep⟩
    by_cases hno : noReset s
    · rw [hkeep hno, hidle]
    · obtain ⟨rest, hev⟩ : ∃ rest, s.env.events = .rst :: rest := by simpa [noReset] using hno
      rw [step_of_rst hev] at h
      cases h
      rfl

/-! ## The messages -/

/-- U3's turn at a step that sends. -/
theorem step_of_send {s : State} {i : Instr} {rest : List Event} (hnext : u3Next s rest)
    (hf : u3Fetch s = .ok (.send i)) : step s = exec i (withEvents rest s) := by
  simp only [step_of_u3Next hnext, u3Turn, u3Fetch_withEvents, hf]

/-- U3's turn at the step that sends this message (R161, R162). -/
theorem step_of_message {s : State} {a : SesStep} {i : Instr} {rest : List Event} (hnext : u3Next s rest)
    (hat : atStep a s) (hact : u3ActionAt s a = .ok (.send i)) : step s = exec i (withEvents rest s) :=
  step_of_send hnext ((u3Fetch_of_atStep hat).trans hact)

/-- Settles O9: each send step has its message enabled, and the turn runs it. -/
theorem stepSendsItsMessage : Obligations.StepSendsItsMessage := by
  intro s rest hnext s'
  refine ⟨fun hat => ?_, fun hat => ?_, fun hat => ?_, fun hat => ?_, fun hat => ?_, fun hat => ?_, fun hat => ?_,
    fun hat => ?_, fun hat => ?_, fun hat => ?_, fun hat => ?_, fun hat bytes hchunk => ?_,
    fun hat bytes hchunk => ?_, fun hat => ?_⟩
  case refine_12 | refine_13 => exact step_of_message hnext hat (by simp only [u3ActionAt, hchunk])
  all_goals exact step_of_message hnext hat rfl

/-- The message that U3 has enabled is one of the step at which it stands. -/
theorem messageAt_of_send {s : State} {i : Instr} (hsend : u3Fetch s = .ok (.send i)) :
    atStep s.u3.sesStep s ∧ ∃ op, messageAt i = some (s.u3.sesStep, op) := by
  obtain hidle | ⟨hat, hact⟩ := u3Fetch_cases hsend
  · cases hidle
  refine ⟨hat, ?_⟩
  generalize s.u3.sesStep = a at hact
  cases a with
  | stepNone | dSettle | dGap1 | dScan1 | dGap2 | dScan2 | stepEnd => cases hact
  | sigWait | setdevWait | verWait | bsizeWait | xsizeWait | eraseWait | addrWait | blkWait =>
    exact absurd (Except.ok.inj hact) (waitAction_ne_send s i)
  | blkData | blkCrc =>
    simp only [u3ActionAt] at hact
    split at hact
    · cases hact
    · cases hact
      exact ⟨_, rfl⟩
  | _ =>
    cases hact
    exact ⟨_, rfl⟩

/-- Settles O57: `'X'` and `'e'` are messages of FLASH_CLEARED, where the identity is established. -/
theorem identityBeforeErase : Obligations.IdentityBeforeErase := by
  intro s i hs hsend hi
  obtain ⟨⟨hstage, -⟩, op, hm⟩ := messageAt_of_send hsend
  have hcleared : s.u3.sesState = .flashCleared := by
    obtain rfl | ⟨size, rfl⟩ := hi
    all_goals
      obtain ⟨hstep, -⟩ := Prod.mk.inj (Option.some.inj hm)
      rw [hstage, ← hstep]
      rfl
  obtain ⟨htable, hsome, hexp⟩ := hs.identity (.inr (.inl hcleared))
  obtain ⟨k, hk⟩ := Option.ne_none_iff_exists'.1 hsome
  rw [hk] at htable hexp
  exact ⟨k, hk, htable.symm, hexp⟩

/-! ## The replies -/

/-- U3 stands at one wait only. -/
theorem not_atRead_of_ne {a b : SesStep} {s : State} (hat : atRead a s) (hab : a ≠ b) : ¬ atRead b s :=
  fun hb => hab (hat.1.2.symm.trans hb.1.2)

/-- Settles O32: each is the branch of RX.IDENT, RX.OK or RX.VER_REPLY at its step. -/
theorem advancingReplies : Obligations.AdvancingReplies := by
  intro s
  refine ⟨fun hat => ?_, fun hat => ?_, fun hat => ?_, fun hat => ?_, fun hat content => ?_⟩
  · exact hat.elim (execRxIdent_of_scan .first) (execRxIdent_of_scan .second)
  · simp only [exec, execRxOk, if_pos hat]
    rfl
  · have h1 := not_atRead_of_ne (b := .setdevWait) hat (by decide)
    simp only [exec, execRxOk, if_neg h1, if_pos hat]
    rfl
  · have h1 := not_atRead_of_ne (b := .setdevWait) hat (by decide)
    have h2 := not_atRead_of_ne (b := .xsizeWait) hat (by decide)
    simp only [exec, execRxOk, if_neg h1, if_neg h2, if_pos hat]
    rfl
  · simp only [exec, execRxVerReply, if_pos hat]
    rfl

/-- Settles O33: the three cases of an accepted signature. -/
theorem signatureReply : Obligations.SignatureReply := by
  intro s s0 s1 hat u
  have hexec : exec (.rxSigReply s0 s1) s = .next (acceptSignature s0 s) := congrArg Host.Outcome.next (if_pos hat)
  rw [hexec]
  obtain ⟨hnone, he⟩ | ⟨k, hkind, hcases⟩ := acceptSignature_cases s0 s
  · refine ⟨fun _ => ?_, fun k hk => absurd (hnone.symm.trans hk) (by simp)⟩
    rw [he, ← hnone]
  · refine ⟨fun hnone => absurd (hnone.symm.trans hkind) (by simp), fun k' hk' => ?_⟩
    obtain rfl : k = k' := Option.some.inj (hkind.symm.trans hk')
    obtain ⟨hne, hdiffers, he⟩ | ⟨hagrees, he⟩ := hcases
    · refine ⟨fun _ _ => by rw [he, ← hkind], fun hagrees => ?_⟩
      exact absurd hagrees (not_or.2 ⟨hne, hdiffers⟩)
    · refine ⟨fun hne hdiffers => absurd hagrees (not_or.2 ⟨hne, hdiffers⟩), fun _ => ?_⟩
      rw [he, ← hkind]
      rfl

/-- Settles O36: the cases of an accepted block size, where the session knows its kind. -/
theorem blockSizeReply : Obligations.BlockSizeReply := by
  intro s hi lo hat
  have hexec : exec (.rxBsizeReply hi lo) s = acceptBlockSize (hi ++ lo) s := if_pos hat
  rw [hexec]
  refine ⟨?_, fun k hkind hne => ?_⟩
  · rintro rfl rfl
    rfl
  · simp only [acceptBlockSize, if_neg (append_ne_zero hne), hkind, needsEraseSize, decide_eq_true_eq]
    rfl

end Sys2Proof.Machine

/-! PROOF. The streaming matcher (42_session.md R167), and what the READ phase of a wait comes to when no reply is
accepted (R163, R164; 60_exceptions.md R247 to R249, R252, R256, R258). -/

namespace Sys2Proof.Machine

/-! ## The matcher -/

/-- A byte that goes on with "MKBL" below its last one moves the index up. -/
theorem scanBytes_cons_next {retest : Bool} {idx : Nat} {x : Byte} {rest : List Byte}
    (hx : identBytes[idx]? = some x) (hi : idx + 1 ≠ 4) :
    scanBytes retest idx (x :: rest) = scanBytes retest (idx + 1) rest := by
  simp only [scanBytes, if_pos hx, if_neg hi]

/-- The last byte of "MKBL" is the match; what follows is discarded. -/
theorem scanBytes_cons_last {retest : Bool} {idx : Nat} {x : Byte} {rest : List Byte}
    (hx : identBytes[idx]? = some x) (hi : idx + 1 = 4) : scanBytes retest idx (x :: rest) = (4, true) := by
  simp only [scanBytes, if_pos hx, if_pos hi]

/-- Any other byte throws the index back. -/
theorem scanBytes_cons_other {retest : Bool} {idx : Nat} {x : Byte} {rest : List Byte}
    (hx : identBytes[idx]? ≠ some x) :
    scanBytes retest idx (x :: rest) = scanBytes retest (if retest = true ∧ x = 0x4D then 1 else 0) rest := by
  simp only [scanBytes, if_neg hx]

/-- Scanning two reads is scanning their concatenation, up to the match. -/
theorem scanBytes_append (retest : Bool) (idx : Nat) (r1 r2 : List Byte) :
    scanBytes retest idx (r1 ++ r2) =
      if (scanBytes retest idx r1).2 = true then scanBytes retest idx r1
      else scanBytes retest (scanBytes retest idx r1).1 r2 := by
  induction r1 generalizing idx with
  | nil => simp [scanBytes]
  | cons x rest ih =>
    rw [List.cons_append]
    by_cases hx : identBytes[idx]? = some x
    · by_cases hi : idx + 1 = 4
      · rw [scanBytes_cons_last hx hi, scanBytes_cons_last hx hi, if_pos rfl]
      · rw [scanBytes_cons_next hx hi, scanBytes_cons_next hx hi, ih]
    · rw [scanBytes_cons_other hx, scanBytes_cons_other hx, ih]

/-- The rest of "MKBL" from the index on is a match. -/
theorem scanBytes_drop_identBytes (retest : Bool) (idx : Nat) (more : List Byte) (hi : idx < 4) :
    scanBytes retest idx (identBytes.drop idx ++ more) = (4, true) := by
  have hlen : idx < identBytes.length := hi
  rw [List.drop_eq_getElem_cons hlen, List.cons_append]
  have hx : identBytes[idx]? = some identBytes[idx] := List.getElem?_eq_getElem hlen
  by_cases hlast : idx + 1 = 4
  · exact scanBytes_cons_last hx hlast
  · rw [scanBytes_cons_next hx hlast]
    exact scanBytes_drop_identBytes retest (idx + 1) more (by omega)
termination_by 4 - idx

/-- A match means that "MKBL" stands in the bytes, after those already matched: the matcher has forgotten only bytes
that begin no "MKBL" of its own index. -/
theorem identBytes_infix_of_found (retest : Bool) (idx : Nat) (r : List Byte) (hi : idx < 4)
    (h : (scanBytes retest idx r).2 = true) : identBytes <:+: identBytes.take idx ++ r := by
  induction r generalizing idx with
  | nil => cases h
  | cons x rest ih =>
    by_cases hx : identBytes[idx]? = some x
    · have htake : identBytes.take (idx + 1) = identBytes.take idx ++ [x] := by
        rw [List.take_add_one, hx]
        rfl
      have hsplit : identBytes.take idx ++ x :: rest = identBytes.take (idx + 1) ++ rest := by
        rw [htake, List.append_assoc, List.singleton_append]
      rw [hsplit]
      by_cases hlast : idx + 1 = 4
      · rw [hlast]
        exact (List.prefix_append identBytes rest).isInfix
      · rw [scanBytes_cons_next hx hlast] at h
        exact ih (idx + 1) (by omega) h
    · rw [scanBytes_cons_other hx] at h
      by_cases hretest : retest = true ∧ x = 0x4D
      · rw [if_pos hretest] at h
        have hrest := ih 1 (by decide) h
        rw [hretest.2]
        exact hrest.trans (List.suffix_append _ _).isInfix
      · rw [if_neg hretest] at h
        have hrest : identBytes <:+: rest := ih 0 (by decide) h
        exact hrest.trans ((List.suffix_cons x rest).trans (List.suffix_append _ _)).isInfix

/-- Settles O40: the matcher byte by byte, and the two streams that tell the retest apart. -/
theorem matcherFindsIdent : Obligations.MatcherFindsIdent := by
  refine ⟨scanBytes_append, scanBytes_drop_identBytes, identBytes_infix_of_found, fun retest => ?_⟩
  cases retest <;> decide

/-! ## The READ phase of a wait -/

/-- A wait for an acknowledgement collects one byte (R163). -/
theorem waitOf_len_of_ok {par : Params} {a : SesStep} {w : WaitSpec} (hw : waitOf par a = some w)
    (hkind : w.kind = .ok) : w.len = 1 := by
  cases a with
  | setdevWait | xsizeWait | eraseWait | addrWait | blkWait => cases hw; rfl
  | sigWait | verWait | bsizeWait => cases hw; cases hkind
  | _ => cases hw

/-- The wait for the block size collects three bytes (R174). -/
theorem waitOf_len_of_bsize {par : Params} {a : SesStep} {w : WaitSpec} (hw : waitOf par a = some w)
    (hkind : w.kind = .bsize) : w.len = 3 := by
  cases a with
  | bsizeWait => cases hw; rfl
  | sigWait | setdevWait | verWait | xsizeWait | eraseWait | addrWait | blkWait => cases hw; cases hkind
  | _ => cases hw

/-- A read does not change the block index that a failure records. -/
theorem waitBlk_withRx (r : List Byte) (s : State) : waitBlk (withRx r s) = waitBlk s := by
  simp only [waitBlk, withRx_u3_sesStep, withRx_u3_blk]

/-- A read that fails. -/
theorem waitRead_of_ioError {s : State} {w : WaitSpec} (hd : (drawRead s).1 = .ioError) :
    waitRead w s =
      .settled (sesFail .ioFailure w.op (toU32 w.len) (toU32 s.u3.rxbuf.length) 0 (waitBlk s) (drawRead s).2) := by
  simp only [waitRead, hd]

/-- More bytes than the reply has. -/
theorem waitRead_of_long {s : State} {w : WaitSpec} {r : List Byte} (hd : (drawRead s).1 = .bytes r)
    (hlong : w.len < (s.u3.rxbuf ++ r).length) :
    waitRead w s =
      .settled
        (sesFail .responseTooLong w.op (toU32 w.len) (toU32 (s.u3.rxbuf ++ r).length) 0 (waitBlk s) (withRx r s)) := by
  simp only [waitRead, hd, if_pos hlong]

/-- As many bytes as the reply has, which its check rejects. -/
theorem waitRead_of_rejected {s : State} {w : WaitSpec} {r : List Byte} {e : ReplyError}
    (hd : (drawRead s).1 = .bytes r) (hlen : (s.u3.rxbuf ++ r).length = w.len)
    (he : decodeRx s.par.vRespLen w.kind (s.u3.rxbuf ++ r) = .error e) :
    waitRead w s = .settled (replyFail w e (withRx r s)) := by
  simp only [waitRead, hd, hlen, he, lt_irrefl, le_refl, if_true, if_false]

/-- Too few bytes at or past the limit. -/
theorem waitRead_of_late {s : State} {w : WaitSpec} {r : List Byte} (hd : (drawRead s).1 = .bytes r)
    (hshort : (s.u3.rxbuf ++ r).length < w.len) (hlate : s.u3.wStart + w.timeout ≤ s.u3.t) :
    waitRead w s =
      .settled
        (sesFail .responseTimeout w.op (toU32 w.len) (toU32 (s.u3.rxbuf ++ r).length) 0 (waitBlk s) (withRx r s)) := by
  simp only [waitRead, hd, if_neg (Nat.not_lt.2 hshort.le), if_neg (Nat.not_le.2 hshort), if_pos hlate]

/-- Too few bytes before the limit. -/
theorem waitRead_of_early {s : State} {w : WaitSpec} {r : List Byte} (hd : (drawRead s).1 = .bytes r)
    (hshort : (s.u3.rxbuf ++ r).length < w.len) (hearly : s.u3.t < s.u3.wStart + w.timeout) :
    waitRead w s = .settled (toSleep (withRx r s)) := by
  simp only [waitRead, hd, if_neg (Nat.not_lt.2 hshort.le), if_neg (Nat.not_le.2 hshort), if_neg (Nat.not_le.2 hearly)]

/-- Settles O37: the outcomes of a read in the order in which it asks for them. -/
theorem waitReadOutcomes : Obligations.WaitReadOutcomes := by
  refine ⟨fun par => ⟨rfl, rfl, rfl, rfl, rfl, rfl, rfl, rfl⟩, ?_⟩
  intro s rest w hnext hstage hphase hw s'
  have hf : u3Fetch s = .ok .read := by rw [u3Fetch_of_wait hstage hw, waitAction_of_read hphase]
  have hr : u3Read s' = waitRead w s' := u3Read_of_wait hw
  have hd : (drawRead s').1 = (drawRead s).1 := drawRead_withEvents rest s
  have hstep : ∀ {t}, waitRead w s' = .settled t → step s = .next t := fun h =>
    step_of_settled hnext hf (hr.trans h)
  refine ⟨fun hio => hstep (waitRead_of_ioError (hd.trans hio)), fun r hbytes => ?_⟩
  have hd' : (drawRead s').1 = .bytes r := hd.trans hbytes
  refine ⟨fun hlong => ?_, fun hkind b hbuf hb => ?_, fun hkind m hi lo hbuf hm => ?_, fun hshort hlate => ?_,
    fun hshort hearly => ?_⟩
  · exact hstep (waitRead_of_long hd' hlong)
  · have hlen : (s'.u3.rxbuf ++ r).length = w.len :=
      (congrArg List.length hbuf).trans (waitOf_len_of_ok hw hkind).symm
    have he : decodeRx s'.par.vRespLen w.kind (s'.u3.rxbuf ++ r) = .error (.notOk b) := by
      rw [hkind]
      exact (congrArg (decodeRx s.par.vRespLen .ok) hbuf).trans (if_neg hb)
    rw [hstep (waitRead_of_rejected hd' hlen he), replyFail, waitBlk_withRx]
    rfl
  · have hlen : (s'.u3.rxbuf ++ r).length = w.len :=
      (congrArg List.length hbuf).trans (waitOf_len_of_bsize hw hkind).symm
    have he : decodeRx s'.par.vRespLen w.kind (s'.u3.rxbuf ++ r) = .error (.badMarker m) := by
      rw [hkind]
      exact (congrArg (decodeRx s.par.vRespLen .bsize) hbuf).trans (if_neg hm)
    exact hstep (waitRead_of_rejected hd' hlen he)
  · exact hstep (waitRead_of_late hd' hshort hlate)
  · exact hstep (waitRead_of_early hd' hshort hearly)

end Sys2Proof.Machine

/-! PROOF. Every session ends (42_session.md R168; 60_exceptions.md R268): each turn of an active U3 fails, or lowers a
fuel made of the step's place in the session, the blocks still to be sent, and the time left to a deadline. -/

namespace Sys2Proof.Machine

/-! ## The fuel -/

/-- A step's place in the session, counted from its end; the discovery loop is one place, and so are the blocks. -/
def stepRank : SesStep → Nat
  | .stepEnd => 0
  | .exitSend => 1
  | .blkHdr => 2
  | .blkData => 2
  | .blkCrc => 2
  | .blkWait => 2
  | .addrWait => 3
  | .addrSend => 4
  | .eraseWait => 5
  | .eraseSend => 6
  | .xsizeWait => 7
  | .xsizeSend => 8
  | .bsizeWait => 9
  | .bsizeSend => 10
  | .verWait => 11
  | .verSend => 12
  | .setdevWait => 13
  | .setdevSend => 14
  | .sigWait => 15
  | .sigSend => 16
  | .dPing1 => 17
  | .dGap1 => 17
  | .dScan1 => 17
  | .dPing2 => 17
  | .dGap2 => 17
  | .dScan2 => 17
  | .dSettle => 18
  | .dReset => 19
  | .stepNone => 20

/-- The block parts still to be sent, and the acknowledgements (43_block_transfer.md R203 to R207). -/
def blockFuel (s : State) : Nat :=
  let left := 4 * (s.u3.nblocks.toNat - s.u3.blk.toNat)
  match s.u3.sesStep with
  | .blkHdr => left + 3
  | .blkData => left + 2
  | .blkCrc => left + 1
  | .blkWait => left
  | _ => 0

/-- The time left to a wait's limit; its SLEEP phase lasts at least 1 ms (R164, R274). -/
def waitFuel (w : WaitSpec) (s : State) : Nat :=
  match s.u3.wPhase with
  | .sleep => 2 * (s.u3.wStart + w.timeout - (s.u3.t + 1)) + 1
  | .read => 2 * (s.u3.wStart + w.timeout - s.u3.t)

/-- The time left to the discovery deadline at the end of the present round, whose two gaps last at least 1 ms together
(R166, R168, R274). -/
def roundFuel (s : State) : Nat :=
  let left (gaps : Nat) := 6 * (s.u3.t0 + s.par.tDiscovery - (s.u3.t + gaps))
  match s.u3.sesStep with
  | .dPing1 => left (s.par.tPing1 + s.par.tPing2) + 5
  | .dGap1 => left (s.par.tPing1 + s.par.tPing2) + 4
  | .dScan1 => left s.par.tPing2 + 3
  | .dPing2 => left s.par.tPing2 + 2
  | .dGap2 => left s.par.tPing2 + 1
  | .dScan2 => left 0
  | _ => 0

/-- The time left at a wait or in the discovery loop. -/
def timeFuel (s : State) : Nat :=
  match waitOf s.par s.u3.sesStep with
  | some w => waitFuel w s
  | none => roundFuel s

/-- What every turn of an active U3 lowers. -/
def fuel (s : State) : ℕ ×ₗ ℕ ×ₗ ℕ := toLex (stepRank s.u3.sesStep, toLex (blockFuel s, timeFuel s))

/-- A later place in the session. -/
theorem fuel_lt_of_rank {s t : State} (h : stepRank t.u3.sesStep < stepRank s.u3.sesStep) : fuel t < fuel s :=
  Prod.Lex.toLex_lt_toLex.2 (.inl h)

/-- A later part of the blocks. -/
theorem fuel_lt_of_blocks {s t : State} (hrank : stepRank t.u3.sesStep = stepRank s.u3.sesStep)
    (h : blockFuel t < blockFuel s) : fuel t < fuel s :=
  Prod.Lex.toLex_lt_toLex.2 (.inr ⟨hrank, Prod.Lex.toLex_lt_toLex.2 (.inl h)⟩)

/-- Less time left. -/
theorem fuel_lt_of_time {s t : State} (hrank : stepRank t.u3.sesStep = stepRank s.u3.sesStep)
    (hblocks : blockFuel t = blockFuel s) (h : timeFuel t < timeFuel s) : fuel t < fuel s :=
  Prod.Lex.toLex_lt_toLex.2 (.inr ⟨hrank, Prod.Lex.toLex_lt_toLex.2 (.inr ⟨hblocks, h⟩)⟩)

/-- At a wait the time left is the wait's. -/
theorem timeFuel_of_wait {s : State} {w : WaitSpec} (hw : waitOf s.par s.u3.sesStep = some w) :
    timeFuel s = waitFuel w s := by
  simp only [timeFuel, hw]

/-- A turn that stays at its wait lowers the fuel with the time left. -/
theorem fuel_lt_of_wait {s t : State} {w : WaitSpec} (hw : waitOf s.par s.u3.sesStep = some w) (hpar : t.par = s.par)
    (hstep : t.u3.sesStep = s.u3.sesStep) (hblk : t.u3.blk = s.u3.blk) (hn : t.u3.nblocks = s.u3.nblocks)
    (h : waitFuel w t < waitFuel w s) : fuel t < fuel s := by
  refine fuel_lt_of_time (by rw [hstep]) (by simp only [blockFuel, hstep, hblk, hn]) ?_
  rwa [timeFuel_of_wait hw, timeFuel_of_wait (by rw [hpar, hstep, hw])]

/-! ## Moves that leave their step -/

/-- `t` has left step `a`, and has the schedule of `s`. -/
structure Leaves (a : SesStep) (s t : State) : Prop where
  step : t.u3.sesStep ≠ a
  events : t.env.events = s.env.events

/-- A failure leaves every step but END. -/
theorem Leaves.sesFail {a : SesStep} {s s' : State} {code : SesCode} {op : SesOp} {exp obs : Word32} {val : Byte}
    {blk : Word32} (ha : a ≠ .stepEnd) (hev : s'.env.events = s.env.events) :
    Leaves a s (sesFail code op exp obs val blk s') :=
  ⟨ha.symm, hev⟩

/-- A Send leaves its step: it goes on to another one, or fails. -/
theorem sendMsg_leaves {a b : SesStep} {op : SesOp} {blk : Word32} {m : List Byte} {onOk : State → State}
    {s s' : State} (ha : a ≠ .stepEnd) (hok : ∀ x, (onOk x).u3.sesStep = b ∧ (onOk x).env = x.env) (hb : b ≠ a)
    (hev : s'.env.events = s.env.events) : Leaves a s (sendMsg op blk m onOk s') := by
  obtain ⟨-, he⟩ | ⟨n, -, he⟩ := sendMsg_cases op blk m onOk s'
  · rw [he]
    exact ⟨by rw [(hok _).1]; exact hb, by simp [(hok _).2, hev]⟩
  · rw [he]
    exact .sesFail ha (by simp [hev])

/-- A message that U3 sends where it stands leaves its step. -/
theorem whenAt_sendMsg_leaves {a b : SesStep} {op : SesOp} {blk : Word32} {m : List Byte} {onOk : State → State}
    {s t : State} (hat : atStep a s)
    (h : Host.Outcome.next (φ := Fault) (ρ := Refusal) (whenAt a (sendMsg op blk m onOk) s) = .next t)
    (ha : a ≠ .stepEnd) (hok : ∀ x, (onOk x).u3.sesStep = b ∧ (onOk x).env = x.env) (hb : b ≠ a) : Leaves a s t := by
  rw [whenAt_pos _ _ _ hat] at h
  cases h
  exact sendMsg_leaves ha hok hb rfl

/-- A message run at its step leaves it. -/
theorem message_leaves {s t : State} {a : SesStep} {i : Instr} {op : SesOp} (hm : messageAt i = some (a, op))
    (hat : atStep a s) (h : exec i s = .next t) : Leaves a s t := by
  cases i with
  | txResetFrame | txPing1 | txPing2 | txReadSig | txSetDev | txReadVer | txReadBsize | txErase | txSetAddr | txExit =>
    cases hm
    exact whenAt_sendMsg_leaves hat h (by decide) (fun _ => ⟨rfl, rfl⟩) (by decide)
  | txEraseSize size =>
    cases hm
    have hgo : Host.Outcome.next (sendEraseSize size s) = .next t :=
      (congrArg Host.Outcome.next (whenAt_pos _ _ _ hat)).symm.trans h
    cases hgo
    obtain ⟨-, he⟩ | ⟨-, he⟩ := sendEraseSize_cases size s
    · rw [he]
      exact .sesFail (by decide) rfl
    · rw [he]
      exact sendMsg_leaves (by decide) (fun _ => ⟨rfl, rfl⟩) (by decide) rfl
  | txBlock part =>
    cases part with
    | header | data =>
      cases hm
      exact whenAt_sendMsg_leaves hat h (by decide) (fun _ => ⟨rfl, rfl⟩) (by decide)
    | crc c =>
      cases hm
      have hgo : sendBlockCrc c s = .next t := (if_pos hat).symm.trans h
      obtain ⟨f, -, he⟩ | ⟨bytes, -, he⟩ := sendBlockCrc_cases c s
      · rw [he] at hgo
        cases hgo
      · rw [he] at hgo
        cases hgo
        exact sendMsg_leaves (by decide) (fun _ => ⟨rfl, rfl⟩) (by decide) rfl
  | _ => cases hm

/-- RX.OK at the wait of `'A'` (43_block_transfer.md R200). -/
theorem execRxOk_of_addrWait {s : State} (hat : atRead .addrWait s) : execRxOk s = acceptAddress s := by
  obtain ⟨⟨hstage, hstep⟩, hphase⟩ := hat
  simp [execRxOk, atRead, atStep, hstage, hstep, hphase, stepStage]

/-- RX.OK at the wait of a block (R207). -/
theorem execRxOk_of_blkWait {s : State} (hat : atRead .blkWait s) : execRxOk s = .next (acceptBlock s) := by
  obtain ⟨⟨hstage, hstep⟩, hphase⟩ := hat
  simp [execRxOk, atRead, atStep, hstage, hstep, hphase, stepStage]

/-- RX.OK leaves the wait that collected it. -/
theorem execRxOk_leaves {s t : State} {a : SesStep} {w : WaitSpec} (hat : atRead a s) (hw : waitOf s.par a = some w)
    (hkind : w.kind = .ok) (h : execRxOk s = .next t) : Leaves a s t := by
  obtain ⟨-, hsetdev, hxsize, herase, -⟩ := advancingReplies s
  cases a with
  | setdevWait =>
    cases (hsetdev hat).symm.trans h
    exact ⟨by simp, rfl⟩
  | xsizeWait =>
    cases (hxsize hat).symm.trans h
    exact ⟨by simp, rfl⟩
  | eraseWait =>
    cases (herase hat).symm.trans h
    exact ⟨by simp, rfl⟩
  | addrWait =>
    rw [execRxOk_of_addrWait hat] at h
    obtain ⟨-, he⟩ | ⟨n, -, -, ⟨-, he⟩ | ⟨-, he⟩⟩ := acceptAddress_cases s
    all_goals
      rw [he] at h
      cases h
    · exact ⟨by simp, rfl⟩
    · exact ⟨by simp, rfl⟩
  | blkWait =>
    rw [execRxOk_of_blkWait hat] at h
    cases h
    obtain ⟨-, he⟩ | ⟨-, he⟩ := acceptBlock_cases s
    all_goals
      rw [he]
      exact ⟨by simp, rfl⟩
  | sigWait | verWait | bsizeWait => cases hw; cases hkind
  | _ => cases hw

/-- A signature reply leaves its wait (R170, R171). -/
theorem acceptSignature_leaves (s0 : Byte) (s : State) : Leaves .sigWait s (acceptSignature s0 s) := by
  obtain ⟨-, he⟩ | ⟨k, -, ⟨-, -, he⟩ | ⟨-, he⟩⟩ := acceptSignature_cases s0 s
  all_goals
    rw [he]
    exact ⟨by simp, rfl⟩

/-- A block-size reply leaves its wait (R174). -/
theorem acceptBlockSize_leaves {bs : Word16} {s t : State} (h : acceptBlockSize bs s = .next t) :
    Leaves .bsizeWait s t := by
  obtain ⟨-, he⟩ | ⟨-, -, he⟩ | ⟨k, -, -, he⟩ := acceptBlockSize_cases bs s
  all_goals
    rw [he] at h
    cases h
  · exact ⟨by simp, rfl⟩
  · refine ⟨?_, rfl⟩
    rw [goStage_u3_sesStep]
    split <;> decide

/-- The replies by their kinds (30_encoding.md R84). -/
theorem formatOf_eq_rx {i : Instr} {kind : ReplyKind} (h : formatOf i = .rx kind) :
    (kind = .ident ∧ i = .rxIdent) ∨ (kind = .sig ∧ ∃ s0 s1, i = .rxSigReply s0 s1) ∨ (kind = .ok ∧ i = .rxOk) ∨
      (kind = .ver ∧ ∃ content, i = .rxVerReply content) ∨ (kind = .bsize ∧ ∃ hi lo, i = .rxBsizeReply hi lo) := by
  cases i with
  | rxIdent | rxSigReply | rxOk | rxVerReply | rxBsizeReply => cases h; simp
  | txBlock part => cases part <;> cases h
  | _ => cases h

/-- An accepted reply leaves the wait that collected it. -/
theorem reply_leaves {s t : State} {a : SesStep} {w : WaitSpec} {i : Instr} (hat : atRead a s)
    (hw : waitOf s.par a = some w) (hkind : formatOf i = .rx w.kind) (h : exec i s = .next t) : Leaves a s t := by
  have hreply := formatOf_eq_rx hkind
  cases a with
  | sigWait =>
    cases hw
    obtain ⟨s0, s1, rfl⟩ : ∃ s0 s1, i = .rxSigReply s0 s1 := by simpa using hreply
    simp only [exec, execRxSigReply, if_pos hat] at h
    cases h
    exact acceptSignature_leaves s0 s
  | setdevWait | xsizeWait | eraseWait | addrWait | blkWait =>
    have hok : w.kind = .ok := by cases hw; rfl
    obtain rfl : i = .rxOk := by simpa [hok] using hreply
    exact execRxOk_leaves hat hw hok h
  | verWait =>
    cases hw
    obtain ⟨content, rfl⟩ : ∃ content, i = .rxVerReply content := by simpa using hreply
    simp only [exec, execRxVerReply, if_pos hat] at h
    cases h
    exact ⟨by simp, rfl⟩
  | bsizeWait =>
    cases hw
    obtain ⟨hi, lo, rfl⟩ : ∃ hi lo, i = .rxBsizeReply hi lo := by simpa using hreply
    simp only [exec, execRxBsizeReply, if_pos hat] at h
    exact acceptBlockSize_leaves h
  | _ => cases hw

/-! ## What a turn comes to -/

/-- The turn took `s` to `t`: the schedule is as it was, and U3 has failed or has less fuel left. -/
structure Advances (s t : State) : Prop where
  events : t.env.events = s.env.events
  less : t.u3.sesState = .failed ∨ fuel t < fuel s

/-- A failure is an advance. -/
theorem Advances.sesFail {s s' : State} {code : SesCode} {op : SesOp} {exp obs : Word32} {val : Byte} {blk : Word32}
    (hev : s'.env.events = s.env.events) : Advances s (sesFail code op exp obs val blk s') :=
  ⟨hev, .inl rfl⟩

/-- A move that leaves its step, and neither sleeps nor scans, fails or is further on in the session. -/
theorem SesMove.fuel_lt {s t : State} (h : SesMove s t) (hs : sessionInv s) (hrun : s.u3.sesState ≠ .idle)
    (hawake : u3Fetch s ≠ .ok .sleep) (hscan : ∀ a b, ScanThenPing a b → ¬ atStep a s)
    (hleaves : t.u3.sesStep ≠ s.u3.sesStep) : t.u3.sesState = .failed ∨ fuel t < fuel s := by
  cases h with
  | stayed => exact absurd rfl hleaves
  | started hidle _ => exact absurd hidle hrun
  | failed => exact .inl rfl
  | settled _ hsleep | gap _ _ hsleep | polled _ _ hsleep => exact absurd hsleep hawake
  | scannedOn hab hat _ | identified hab hat => exact absurd hat (hscan _ _ hab)
  | waitsOn hat _ _ => exact absurd (by simp) hleaves
  | sentOn hab hat _ =>
    right
    cases hab with
    | resetFrame | exit => exact fuel_lt_of_rank (by simp [hat.2, stepRank])
    | header | data =>
      exact fuel_lt_of_blocks (by simp [hat.2, stepRank]) (by simp [blockFuel, hat.2])
    | ping1 | ping2 =>
      exact fuel_lt_of_time (by simp [hat.2, stepRank]) (by simp [blockFuel, hat.2])
        (by simp [timeFuel, waitOf, roundFuel, hat.2])
  | sentAndWaits hab hat _ =>
    right
    cases hab <;> exact fuel_lt_of_rank (by simp [hat.2, stepRank])
  | sentCrc hat _ _ =>
    exact .inr (fuel_lt_of_blocks (by simp [hat.2, stepRank]) (by simp [blockFuel, hat.2]))
  | acknowledged hab hat =>
    right
    cases hab <;> exact fuel_lt_of_rank (by simp [hat.2, stepRank])
  | sized hat _ _ =>
    refine .inr (fuel_lt_of_rank ?_)
    rw [goStage_u3_sesStep, hat.2]
    split <;> decide
  | signed hat _ _ | addressed hat _ _ | addressedEmpty hat _ _ | lastBlock hat _ =>
    exact .inr (fuel_lt_of_rank (by simp [hat.2, stepRank]))
  | nextBlock hat _ =>
    obtain ⟨hblk, -⟩ := hs.block.1 (inBlock_of_blkWait hat)
    have hnext := bump_toNat_of_lt hblk
    have hlt : s.u3.blk.toNat < s.u3.nblocks.toNat := hblk
    refine .inr (fuel_lt_of_blocks (by simp [hat.2, stepRank]) ?_)
    simp only [blockFuel, hat.2, goStep_u3_sesStep, goStep_u3_blk, goStep_u3_nblocks, withRx_u3_nblocks, hnext]
    omega

/-! ## Sleeps -/

/-- U3 sleeps at the settle delay, in the gaps, and in the SLEEP phase of a wait (R164 to R166). -/
theorem sleep_cases {s : State} (hf : u3Fetch s = .ok .sleep) :
    s.u3.sesStep = .dSettle ∨ s.u3.sesStep = .dGap1 ∨ s.u3.sesStep = .dGap2 ∨
      ∃ w, waitOf s.par s.u3.sesStep = some w ∧ s.u3.wPhase = .sleep := by
  obtain hidle | ⟨-, hact⟩ := u3Fetch_cases hf
  · cases hidle
  generalize s.u3.sesStep = a at hact
  cases a with
  | dSettle | dGap1 | dGap2 => simp
  | sigWait | setdevWait | verWait | bsizeWait | xsizeWait | eraseWait | addrWait | blkWait =>
    refine .inr (.inr (.inr ⟨_, rfl, ?_⟩))
    cases hphase : s.u3.wPhase with
    | sleep => rfl
    | read => simp [u3ActionAt, waitAction, hphase] at hact
  | blkData | blkCrc => simp only [u3ActionAt] at hact; split at hact <;> cases hact
  | _ => cases hact

/-- Every Sleep is an advance: time passes towards the deadline (20_memory.md R62). -/
theorem u3Sleep_advances {s : State} (hf : u3Fetch s = .ok .sleep) : Advances s (u3Sleep s) := by
  obtain hstep | hstep | hstep | ⟨w, hw, hphase⟩ := sleep_cases hf
  · simp only [u3Sleep, hstep, if_true]
    exact ⟨by simp, .inr (fuel_lt_of_rank (by simp [hstep, stepRank]))⟩
  · have he : u3Sleep s = goStep .dScan1 (sleepFor s.par.tPing1 s) := by simp [u3Sleep, hstep]
    rw [he]
    refine ⟨by simp, .inr (fuel_lt_of_time (by simp [hstep, stepRank]) (by simp [blockFuel, hstep]) ?_)⟩
    simp only [timeFuel, waitOf, roundFuel, hstep, goStep_u3_sesStep, goStep_u3_t0, goStep_u3_t, goStep_par,
      sleepFor_u3_t0, sleepFor_u3_t, sleepFor_par]
    omega
  · have he : u3Sleep s = goStep .dScan2 (sleepFor s.par.tPing2 s) := by simp [u3Sleep, hstep]
    rw [he]
    refine ⟨by simp, .inr (fuel_lt_of_time (by simp [hstep, stepRank]) (by simp [blockFuel, hstep]) ?_)⟩
    simp only [timeFuel, waitOf, roundFuel, hstep, goStep_u3_sesStep, goStep_u3_t0, goStep_u3_t, goStep_par,
      sleepFor_u3_t0, sleepFor_u3_t, sleepFor_par]
    omega
  · rw [u3Sleep_of_wait hw]
    refine ⟨by simp, .inr (fuel_lt_of_wait hw (by simp) (by simp) (by simp) (by simp) ?_)⟩
    have hpoll := s.par.tPoll_pos
    simp only [waitFuel, hphase, toRead_u3_wPhase, toRead_u3_wStart, toRead_u3_t, sleepFor_u3_wStart, sleepFor_u3_t]
    omega

/-! ## Sends -/

/-- Every Send is an advance. -/
theorem u3Send_advances {s t : State} {i : Instr} (hs : sessionInv s) (hrun : s.u3.sesState ≠ .idle)
    (hf : u3Fetch s = .ok (.send i)) (h : exec i s = .next t) : Advances s t := by
  obtain ⟨hat, op, hm⟩ := messageAt_of_send hf
  obtain ⟨hstep, hev⟩ := message_leaves hm hat h
  refine ⟨hev, (u3Send_move hf h).fuel_lt hs hrun (by simp [hf]) (fun a b hab hscan => ?_) hstep⟩
  rw [u3Fetch_of_scan hab hscan] at hf
  cases hf

/-! ## Reads -/

/-- U3 reads at the scan points, and in the READ phase of a wait (R164, R166). -/
theorem read_cases {s : State} (hf : u3Fetch s = .ok .read) :
    (∃ a b, ScanThenPing a b ∧ atStep a s) ∨
      ∃ w, waitOf s.par s.u3.sesStep = some w ∧ atRead s.u3.sesStep s := by
  obtain hidle | ⟨hat, hact⟩ := u3Fetch_cases hf
  · cases hidle
  generalize hstep : s.u3.sesStep = a at hat hact
  cases a with
  | dScan1 => exact .inl ⟨_, _, .first, hat⟩
  | dScan2 => exact .inl ⟨_, _, .second, hat⟩
  | sigWait | setdevWait | verWait | bsizeWait | xsizeWait | eraseWait | addrWait | blkWait =>
    exact .inr ⟨_, rfl, hat, waitAction_eq_read (Except.ok.inj hact)⟩
  | blkData | blkCrc => simp only [u3ActionAt] at hact; split at hact <;> cases hact
  | _ => cases hact

/-- What a read step came to is an advance, or a reply whose effect is one. -/
def LeadsToAdvance (s : State) : ReadResult → Prop
  | .settled t => Advances s t
  | .reply i s' => ∀ t, exec i s' = .next t → Advances s t

/-- Every scan is an advance: a round without a match before the deadline has used up time of it (R166, R168). -/
theorem scanRead_advances {s : State} {a b : SesStep} (hab : ScanThenPing a b) (hat : atStep a s) :
    LeadsToAdvance s (scanRead b s) := by
  obtain ⟨-, he⟩ | ⟨r, -, ⟨-, he⟩ | ⟨-, -, he⟩ | ⟨-, hearly, he⟩⟩ := scanRead_cases b s
  all_goals rw [he]
  · exact .sesFail (by simp)
  · intro t hx
    have hat' : atStep a (withScan r s) := by simpa [atStep] using hat
    rw [execRxIdent_of_scan hab hat'] at hx
    cases hx
    refine ⟨by simp, .inr (fuel_lt_of_rank ?_)⟩
    cases hab <;> simp [hat.2, stepRank]
  · exact .sesFail (by simp)
  · have hpings := s.par.tPings_pos
    refine ⟨by simp, .inr ?_⟩
    cases hab with
    | first =>
      exact fuel_lt_of_time (by simp [hat.2, stepRank]) (by simp [blockFuel, hat.2])
        (by simp [timeFuel, waitOf, roundFuel, hat.2])
    | second =>
      refine fuel_lt_of_time (by simp [hat.2, stepRank]) (by simp [blockFuel, hat.2]) ?_
      simp only [timeFuel, waitOf, roundFuel, hat.2, goStep_u3_sesStep, goStep_u3_t0, goStep_u3_t, goStep_par,
        withScan_u3_t0, withScan_u3_t, withScan_par]
      omega

/-- Every read of a wait is an advance: a wait that goes on is before its limit (R164). -/
theorem waitRead_advances {s : State} {w : WaitSpec} (hs : sessionInv s) (hrun : s.u3.sesState ≠ .idle)
    (hw : waitOf s.par s.u3.sesStep = some w) (hat : atRead s.u3.sesStep s) : LeadsToAdvance s (waitRead w s) := by
  obtain ⟨-, he⟩ | ⟨r, -, ⟨-, he⟩ | ⟨hlen, ⟨i, hdec, he⟩ | ⟨e, hdec, he⟩⟩ | ⟨-, -, he⟩ | ⟨-, hearly, he⟩⟩ :=
    waitRead_cases w s
  all_goals rw [he]
  · exact .sesFail (by simp)
  · exact .sesFail (by simp)
  · intro t hx
    have hread := atRead_withRx r hat
    obtain ⟨hstep, hev⟩ := reply_leaves hread (by simpa using hw) (formatOf_decodeRx hdec) hx
    refine ⟨by simpa using hev, (reply_move hat hw hlen hdec hx).fuel_lt hs hrun ?_ (fun a b hab hscan => ?_) hstep⟩
    · simp [u3Fetch_of_wait hat.1.1 hw, waitAction_of_read hat.2]
    · rw [hscan.2] at hw
      cases hab <;> cases hw
  · obtain ⟨b, rfl | rfl⟩ := decodeRx_error_of_wait hw hlen hdec
    · exact .sesFail (by simp)
    · exact .sesFail (by simp)
  · exact .sesFail (by simp)
  · refine ⟨by simp, .inr (fuel_lt_of_wait hw (by simp) (by simp) (by simp) (by simp) ?_)⟩
    simp only [waitFuel, hat.2, toSleep_u3_wPhase, toSleep_u3_wStart, toSleep_u3_t, withRx_u3_wStart, withRx_u3_t]
    omega

/-- Every read is an advance. -/
theorem u3Read_advances {s : State} (hs : sessionInv s) (hrun : s.u3.sesState ≠ .idle) (hf : u3Fetch s = .ok .read) :
    LeadsToAdvance s (u3Read s) := by
  obtain ⟨a, b, hab, hat⟩ | ⟨w, hw, hat⟩ := read_cases hf
  · rw [u3Read_of_scan hab hat]
    exact scanRead_advances hab hat
  · rw [u3Read_of_wait hw]
    exact waitRead_advances hs hrun hw hat

/-! ## The session -/

/-- Every turn of an active U3 is an advance. -/
theorem u3Turn_advances {s t : State} (hs : sessionInv s) (himage : imageInv s) (hactive : sesActive s = true)
    (h : u3Turn s = .next t) : Advances s t := by
  have hrun : s.u3.sesState ≠ .idle := (of_decide_eq_true hactive).1
  obtain ⟨act, hf, hact⟩ := (enabled_iff_sesActive hs himage).2 hactive
  unfold u3Turn at h
  rw [hf] at h
  cases act with
  | idle => exact absurd rfl hact
  | sleep => cases h; exact u3Sleep_advances hf
  | send i => exact u3Send_advances hs hrun hf h
  | read =>
    have hadv := u3Read_advances hs hrun hf
    cases hr : u3Read s with
    | settled t' =>
      rw [hr] at hadv
      simp only [hr] at h
      cases h
      exact hadv
    | reply i s' =>
      rw [hr] at hadv
      simp only [hr] at h
      exact hadv t h

/-- One more step before a run. -/
theorem runFor_succ {s t : State} (n : Nat) (h : step s = .next t) : runFor (n + 1) s = runFor n t := by
  simp only [runFor, h]

/-- Settles O56: by induction on the fuel; the step of an active U3 fails or leaves less of it. -/
theorem sessionEnds : Obligations.SessionEnds := by
  intro s hs himage hev
  induction hfuel : fuel s using WellFoundedLT.induction generalizing s with
  | _ f ih =>
    cases hactive : sesActive s with
    | false => exact ⟨0, s, rfl, hactive⟩
    | true =>
      obtain ⟨t, ht⟩ := step_next hs himage
      have hturn : u3Turn s = .next t := by rw [← ht, step_of_u3Next (.inr ⟨hev, rfl⟩), withEvents_nil hev]
      have hmove := u3Turn_move hturn
      obtain ⟨hpar, hu2, -, -⟩ := hmove.frame
      obtain ⟨hev', hfailed | hless⟩ := u3Turn_advances hs himage hactive hturn
      · exact ⟨1, t, runFor_succ 0 ht, by simp [sesActive, hfailed]⟩
      · have himage' : imageInv t := by simpa only [imageInv, hpar, hu2] using himage
        obtain ⟨n, t', hrunFor, hend⟩ :=
          ih (fuel t) (hfuel ▸ hless) t (sessionInv_move hmove hs) himage' (hev'.trans hev) rfl
        exact ⟨n + 1, t', (runFor_succ n ht).trans hrunFor, hend⟩

end Sys2Proof.Machine

/-! PROOF. One programming block (43_block_transfer.md R200 to R209): the chunk that it carries, its CRC message, the
block count, and the acknowledgements that open the first block and each next one. -/

namespace Sys2Proof.Machine

/-! ## The chunk -/

/-- The byte at an image address: what was written below `total_bytes`, the padding from there on (20_memory.md R55;
43_block_transfer.md R202). -/
theorem some_imageByte {s : State} (h : imageInv s) (a : Nat) :
    some (imageByte s a) = if a < totalBytes s then memRead? s.u2.image a else some s.par.padByte := by
  obtain ⟨haddresses, -⟩ := h
  by_cases ha : a < totalBytes s
  · have hwritten : (memRead? s.u2.image a).isSome = true := by
      rw [memRead?_isSome, haddresses]
      exact List.mem_range.2 ha
    obtain ⟨b, hb⟩ := Option.isSome_iff_exists.1 hwritten
    simp only [imageByte, if_pos ha, hb, Option.getD_some]
  · simp only [imageByte, if_neg ha]

/-- A chunk has `block_size` bytes (R202). -/
theorem chunkOf_length (s : State) (k : Nat) : (chunkOf s k).length = s.u3.blockSize.toNat := by
  simp [chunkOf]

/-- Byte `i` of a chunk is that of its image address (R202). -/
theorem chunkOf_getElem? {s : State} {i : Nat} (k : Nat) (hi : i < s.u3.blockSize.toNat) :
    (chunkOf s k)[i]? = some (imageByte s (k * s.u3.blockSize.toNat + i)) := by
  simp [chunkOf, hi]

/-- Settles O41: under the invariant the chunk is `chunkOf`, a list of image bytes. -/
theorem chunkContents : Obligations.ChunkContents := by
  intro s k himage
  refine ⟨chunkOf s k, chunk_ok s himage k, chunkOf_length s k, fun i hi => ?_⟩
  rw [chunkOf_getElem? k hi, some_imageByte himage]

/-! ## The CRC message -/

/-- Settles O30: `crc_s` is written before the Send and does not decide its draw. -/
theorem blockCrcMessage : Obligations.BlockCrcMessage := by
  intro s bytes hi lo hat hd hchunk
  constructor
  · have hbytes : encode (.txBlock (.crc (hi ++ lo))) = [hi, lo] := be16_append hi lo
    rw [exec_blockCrc hat hchunk, hbytes, sendMsg_startWait_ok (by rw [drawSend_crcS]; exact hd), sentAndWaiting,
      drawSend_crcS]
  · simp only [u3Fetch_of_atStep hat, u3ActionAt, hchunk]

/-! ## The block count -/

/-- The blocks cover the image (R201). -/
theorem le_blockCount_mul {total blockSize : Nat} (h : 0 < blockSize) :
    total ≤ blockCount total blockSize * blockSize := by
  have hdiv := Nat.div_add_mod' (total + blockSize - 1) blockSize
  have hmod := Nat.mod_lt (total + blockSize - 1) h
  unfold blockCount
  omega

/-- The padding is shorter than a block (R202). -/
theorem blockCount_mul_lt {total blockSize : Nat} (h : 0 < blockSize) :
    blockCount total blockSize * blockSize < total + blockSize := by
  have hle : blockCount total blockSize * blockSize ≤ total + blockSize - 1 := Nat.div_mul_le_self _ _
  omega

/-- Settles O34: the two cases of an accepted `'A'` acknowledgement, and the bounds of a rounded-up quotient. -/
theorem addressAcknowledged : Obligations.AddressAcknowledged := by
  intro s hat hbs n
  have hpos : 0 < s.u3.blockSize.toNat := Nat.pos_of_ne_zero fun h => hbs (BitVec.eq_of_toNat_eq h)
  have hle : n ≤ totalBytes s := blockCount_le hpos
  have hlt : n < 2 ^ 32 := hle.trans_lt s.u2.cursor.isLt
  have hpadded : n * s.u3.blockSize.toNat < totalBytes s + s.u3.blockSize.toNat := blockCount_mul_lt hpos
  refine ⟨?_, hlt, le_blockCount_mul hpos, hpadded, fun hbound => ⟨hle.trans hbound, ?_⟩⟩
  · have hexec : exec .rxOk s = acceptAddress s := execRxOk_of_addrWait hat
    rw [hexec, ← toU32_of_lt n hlt]
    obtain ⟨hzero, -⟩ | ⟨m, rfl, -, ⟨hsome, he⟩ | ⟨hnone, he⟩⟩ := acceptAddress_cases s
    · exact absurd hzero hbs
    · have hn : 0 < n := hsome
      obtain ⟨⟨hstage, -⟩, -⟩ := hat
      have hstay : s.u3.sesState = .transferring := hstage
      rw [he, if_pos hn, if_pos hn, ← hstay]
      rfl
    · have hn : ¬ 0 < n := Nat.not_lt.2 hnone.le
      rw [he, if_neg hn, if_neg hn]
      rfl
  · have := s.u3.blockSize.isLt
    omega

/-! ## The block's acknowledgement -/

/-- A block index below the count counts one up without overflow (R207). -/
theorem bump_of_lt {x n : Word32} (h : x < n) : bump x = x + 1 := by
  have hlt : x.toNat < n.toNat := h
  exact (toU32_of_lt _ (by have := n.isLt; omega)).trans (by simp [BitVec.ofNat_add])

/-- Settles O35: the two cases of an accepted block acknowledgement. -/
theorem blockAcknowledged : Obligations.BlockAcknowledged := by
  intro s hat hlt
  have hexec : exec .rxOk s = .next (acceptBlock s) := execRxOk_of_blkWait hat
  have hnext : bump s.u3.blk < s.u3.nblocks ↔ s.u3.blk.toNat + 1 < s.u3.nblocks.toNat := by
    rw [BitVec.lt_def, bump_toNat_of_lt hlt]
  rw [hexec, ← bump_of_lt hlt]
  obtain ⟨hmore, he⟩ | ⟨hlast, he⟩ := acceptBlock_cases s
  · exact ⟨fun _ => congrArg Host.Outcome.next he, fun heq => absurd (hnext.1 hmore) heq.not_lt⟩
  · exact ⟨fun hless => absurd (hnext.2 hless) hlast, fun _ => congrArg Host.Outcome.next he⟩

end Sys2Proof.Machine

/-! PROOF. The fault entries (60_exceptions.md R230, R231), and the record that has no other effect than one of them
(41_hex_parser.md R141; R240). -/

namespace Sys2Proof.Machine

/-- The builder of an unsupported record enters ERROR, so U2 does not go back to SEEK (R134, R141). -/
theorem backToSeek_buildUnsupported (tt : Byte) (u : HexUnit) :
    backToSeek (buildUnsupported tt u) = hexError .unsupportedRecord tt 0 0 u :=
  backToSeek_of_ne (by simp [buildUnsupported])

/-- Settles O24: the record is accepted, and its builder is the error. The builder is the same for every type byte, so
the bound on the type is not used. -/
theorem unsupportedRecordFails : Obligations.UnsupportedRecordFails := by
  intro s tt address payload cc hcollect _ hsum
  rw [exec_recUnsupported_of_collect hcollect, recordUnsupported, acceptRecord_of_accepted hsum,
    backToSeek_buildUnsupported]
  rfl

/-- Settles O26: each entry is the one record update that the rule lists. -/
theorem errorEntries : Obligations.ErrorEntries := by
  refine ⟨fun code val exp obs u => ?_, fun code op exp obs val blk s => ?_⟩
  · rw [hexError]
  · rw [sesFail]

end Sys2Proof.Machine
